-- ==== Sys2Proof/Word.lean ====
section
/-! DEFINITION. The plain data shapes of the model: bytes, ticks, and total tables over a fixed
number of stations, zones, paths, phases and devices. -/

namespace Sys2Proof

/-- One byte on a wire or in the configuration block. -/
abbrev Byte := BitVec 8

/-- The free-running tick count and every tick taken from it (02, R17). -/
abbrev Tick := BitVec 32

/-- A table with one entry for each index below `n`. -/
structure Tab (n : Nat) (α : Type) where
  list : List α
  len : list.length = n
deriving DecidableEq, Repr

/-- The entry of an index. -/
def Tab.get {n : Nat} {α : Type} (t : Tab n α) (i : Fin n) : α :=
  t.list.get (i.cast t.len.symm)

/-- The table of a function. -/
def Tab.ofFn {n : Nat} {α : Type} (f : Fin n → α) : Tab n α :=
  ⟨List.ofFn f, List.length_ofFn⟩

/-- The table with the same entry everywhere. -/
def Tab.const {n : Nat} {α : Type} (a : α) : Tab n α := Tab.ofFn fun _ => a

/-- The table with the entry of `i` replaced. -/
def Tab.set {n : Nat} {α : Type} (t : Tab n α) (i : Fin n) (a : α) : Tab n α :=
  Tab.ofFn fun j => if j = i then a else t.get j

/-- The table with the entry of `i` changed by `f`. -/
def Tab.modify {n : Nat} {α : Type} (t : Tab n α) (i : Fin n) (f : α → α) : Tab n α :=
  t.set i (f (t.get i))

/-- Station numbers 1..24 as the indices 0..23 (00_scope.md 4.2). -/
abbrev Station := Fin 24

/-- Bus zones 1..4 as the indices 0..3 (00_scope.md 4.5). Group names are zones (R103). -/
abbrev Zone := Fin 4

/-- The number of a station, 1..24. -/
abbrev Station.num (n : Station) : Nat := n.val + 1

/-- Something for each of the paths A and B. -/
structure PerPath (α : Type) where
  a : α
  b : α
deriving DecidableEq, Repr

/-- Something for each of the phases L1, L2 and L3. -/
structure PerPhase (α : Type) where
  l1 : α
  l2 : α
  l3 : α
deriving DecidableEq, Repr

/-- Something for each of bus disconnector X, bus disconnector Y and the breaker. -/
structure PerDevice (α : Type) where
  x : α
  y : α
  breaker : α
deriving DecidableEq, Repr

/-- Apply a function to each phase. -/
def PerPhase.map {α β : Type} (f : α → β) (p : PerPhase α) : PerPhase β :=
  ⟨f p.l1, f p.l2, f p.l3⟩

/-- Combine two per-phase values. -/
def PerPhase.zip {α β γ : Type} (f : α → β → γ) (p : PerPhase α) (q : PerPhase β) : PerPhase γ :=
  ⟨f p.l1 q.l1, f p.l2 q.l2, f p.l3 q.l3⟩

/-- The same value in each phase. -/
def PerPhase.const {α : Type} (a : α) : PerPhase α := ⟨a, a, a⟩

/-- The same value for each device. -/
def PerDevice.const {α : Type} (a : α) : PerDevice α := ⟨a, a, a⟩

/-- Apply a function to each device. -/
def PerDevice.map {α β : Type} (f : α → β) (p : PerDevice α) : PerDevice β :=
  ⟨f p.x, f p.y, f p.breaker⟩

/-- The same value on each path. -/
def PerPath.const {α : Type} (a : α) : PerPath α := ⟨a, a⟩

end Sys2Proof
end

