-- ==== Sys2Proof/Syntax.lean ====
section
/-! DEFINITION. The commands of the part: one constructor of `Instr` for each row of
spec/opcode_table.json, with what the rule says the event brings (assumption log 19). -/

namespace Sys2Proof

/-- The two networks (03). -/
inductive Path where
  | a
  | b
deriving DecidableEq, Repr

/-- The three switching devices of the own bay (R9). -/
inductive Device where
  | x
  | y
  | breaker
deriving DecidableEq, Repr

/-- The two contacts of a device, each on or off (R9). -/
structure Contacts where
  openOn : Bool
  closedOn : Bool
deriving DecidableEq, Repr

/-- A slot of the Differential Unit: a group name or the check zone (07). -/
inductive SlotName where
  | group (g : Zone)
  | check
deriving DecidableEq, Repr

/-- The events and commands of the DZ640, one constructor per row of the opcode table. -/
inductive Instr where
  /-- COLD_RESET (R178): PORST goes low. -/
  | coldReset
  /-- PORST_RISE (R178): the rising edge of PORST, with the levels of STN4..STN0 and PBEN. -/
  | porstRise (stn : BitVec 5) (pben : Bool)
  /-- WARM_RESET (R179): WRST goes low. -/
  | warmReset
  /-- WRST_RISE (R179): the rising edge of WRST. -/
  | wrstRise
  /-- STORAGE_TEST (R182): the pattern test ends; `passed` says that every read returned its pattern. -/
  | storageTest (passed : Bool)
  /-- CONVERSION_ATTEMPT (R185): the next self-test conversion attempt starts. -/
  | conversionAttempt
  /-- LOOPBACK_RETURN (R54): the loopback frame returns with these bytes. -/
  | loopbackReturn (frame : List Byte) (phyError : Bool)
  /-- LOOPBACK_TIMEOUT (R54): the loopback frame has not returned within 1 ms. -/
  | loopbackTimeout
  /-- MCLK_CHECK (R186): the RC interval ends with this count of MCLK ticks. -/
  | mclkCheck (count : Nat)
  /-- SAMPLE_INSTANT (R17): the period ends; the contacts and the BLOCK IN level are read. -/
  | sampleInstant (contacts : PerDevice Contacts) (blockIn : Bool)
  /-- TRAVEL_EXPIRY (R12): the travel count of a device reaches its travel time. -/
  | travelExpiry (d : Device)
  /-- DRDY_RISE (R2): DRDY rises. -/
  | drdyRise
  /-- ADC_TIMEOUT (R2): 4,800 ticks pass without a DRDY rise. -/
  | adcTimeout
  /-- READ_COMPLETE (R3): the 64th bit is taken; the first bit taken is the most significant. -/
  | readComplete (bits : BitVec 64)
  /-- PPS_EDGE (R20): a rising edge on the PPS line. -/
  | ppsEdge
  /-- PPS_TIMEOUT (R20): 24,002,400 ticks pass without a further PPS edge. -/
  | ppsTimeout
  /-- MARK_MISSING (R22): 24,002,400 ticks pass without a second mark. -/
  | markMissing
  /-- ACQUISITION_STEP (R26): the step that has fallen due is taken. -/
  | acquisitionStep
  /-- HOLDOVER_LIMIT (R32): the holdover elapsed count reaches its limit. -/
  | holdoverLimit
  /-- SYNC_LOSS (R34): the unlocked run passes 2,400. -/
  | syncLoss
  /-- ARRIVAL (R45): the MAC of a path hands over the bytes of a frame, destination address to FCS. -/
  | arrival (p : Path) (frame : List Byte) (phyError : Bool)
  /-- TRANSMIT_END (R42): the transmission in progress on a path ends. -/
  | transmitEnd (p : Path)
  /-- LINK_UP_FALL (R52): a link-up line falls. -/
  | linkUpFall (p : Path)
  /-- LINK_UP_RISE (R52): a link-up line rises. -/
  | linkUpRise (p : Path)
  /-- CONFLICT_CLEAR (R62): the conflict-free run reaches 2,400. -/
  | conflictClear
  /-- PEER_SILENT (R59): the missed run of a peer reaches 24. -/
  | peerSilent (n : Station)
  /-- SET_DEADLINE (R80): the deadline of the oldest open set. -/
  | setDeadline
  /-- END_OPEN (R101): the open-run of a tie reaches Tend. -/
  | endOpen (n : Station)
  /-- HOLD_COUNTER_EXPIRY (R129): the hold counter of a LATCHED group reaches 0. -/
  | holdCounterExpiry (g : Zone)
  /-- DROP_OFF_EXPIRY (R132): the drop-off run reaches W. -/
  | dropOffExpiry (slot : SlotName)
  /-- BF_TIMER_EXPIRY (R154): the BF timer reaches 0. -/
  | bfTimerExpiry
  /-- MINIMUM_TIME_EXPIRY (R148): the minimum-time counter reaches 0 without a demand. -/
  | minimumTimeExpiry
  /-- CONFIG_RECHECK (R167): the recheck count reaches 2,400. -/
  | configRecheck
  /-- LINE_DROPPED (R194): after these characters a CR ends a line that holds no word. -/
  | lineDropped (chars : List Byte)
  /-- ILL_CMD (R195): after these characters a CR ends a line that is answered as no command;
  `framing` is the framing error of the CR. -/
  | illCmd (chars : List Byte) (framing : Bool)
  /-- REPLY_END (R196): the last character of the reply is sent. -/
  | replyEnd
  /-- LOAD (R197): after these characters a CR ends a LOAD line. -/
  | load (chars : List Byte)
  /-- LOAD_CHECKSUM_BYTE (R197): the command checksum byte is received. -/
  | loadChecksumByte (byte : Byte) (framing : Bool)
  /-- LOAD_SUM_TIMEOUT (R197): 2 s pass without a checksum byte. -/
  | loadSumTimeout
  /-- LOAD_DATA_BYTE (R198): a data byte is received. -/
  | loadDataByte (byte : Byte) (framing : Bool)
  /-- LOAD_DATA_CHECKSUM (R198): the data checksum byte is received. -/
  | loadDataChecksum (byte : Byte) (framing : Bool)
  /-- LOAD_DATA_TIMEOUT (R198): a data byte or the data checksum is overdue. -/
  | loadDataTimeout
  /-- COMMIT (R199): after these characters a CR ends a COMMIT line. -/
  | commit (chars : List Byte)
  /-- TEST (R199): after these characters a CR ends a TEST line. -/
  | test (chars : List Byte)
  /-- ENDTEST (R199): after these characters a CR ends an ENDTEST line. -/
  | endtest (chars : List Byte)
  /-- STOP (R180): after these characters a CR ends a STOP line. -/
  | stop (chars : List Byte)
  /-- WARM (R200): after these characters a CR ends a WARM line. -/
  | warm (chars : List Byte)
  /-- ACK (R171): after these characters a CR ends an ACK line. -/
  | ack (chars : List Byte)
  /-- EXAMINE (R201): after these characters a CR ends an EXAMINE line that names a record. -/
  | examine (chars : List Byte)
  /-- EXAMINE_NEXT (R201): after these characters a CR ends an EXAMINE + line or a bare EXAMINE. -/
  | examineNext (chars : List Byte)
  /-- EXAMINE_AGAIN (R201): after these characters a CR ends an EXAMINE * line. -/
  | examineAgain (chars : List Byte)
  /-- CHARACTER_RECEIVED (R194): a character other than CR is received. -/
  | characterReceived (byte : Byte) (framing : Bool)
  /-- PROMPT_LF_SENT (R198): the LF of the prompt has been sent. -/
  | promptLfSent
deriving DecidableEq, Repr

end Sys2Proof
end

