-- ==== Sys2Proof/Config.lean ====
section
/-! DEFINITION. The fixed numbers of the part (00_scope.md 4.2 and the rules named). The spec leaves
no value undefined, so there is no free value here. -/

namespace Sys2Proof.Config

/-- Sample indices run over 0..47,999 (00_scope.md 4.2). -/
abbrev indexCount : Nat := 48000

/-- Half the index range: the bound of "newer" (00_scope.md 4.3). -/
abbrev indexHalf : Nat := 24000

/-- Sample instants per second (00_scope.md 4.2). -/
abbrev sampleRate : Nat := 2400

/-- The nominal period in 1/256 tick (R17). -/
abbrev nominalPeriod : Int := 2560000

/-- The history ring holds 48 closed sets (00_scope.md 4.2). -/
abbrev historyCap : Nat := 48

/-- ADC timeout in ticks (R2). -/
abbrev adcLimit : Nat := 4800

/-- Length of the ADC read in ticks (R3). -/
abbrev readTicks : Nat := 256

/-- Ticks between the starts of two self-test conversion attempts (R185). -/
abbrev attemptTicks : Nat := 10000

/-- The loopback frame's time limit, 1 ms in ticks (R54). -/
abbrev loopbackTicks : Nat := 24000

/-- Bound of the events that the block's own timers bring within the ticks of one command; no state brings
more (assumption log 3). -/
abbrev passFuel : Nat := 8

/-- Nominal PPS interval in ticks (R20). -/
abbrev ppsInterval : Nat := 24000000

/-- Tolerance of a PPS interval (R20). -/
abbrev ppsTolerance : Nat := 2400

/-- Ticks without an edge or a mark after which it is missing (R20, R22). -/
abbrev markLimit : Nat := 24002400

/-- The 2 s limit of the service line in ticks (11). -/
abbrev twoSeconds : Nat := 48000000

/-- The 100 ms limit of the service line in ticks (11). -/
abbrev hundredMs : Nat := 2400000

/-- Bytes of the configuration block (10.4). -/
abbrev blockSize : Nat := 58

/-- Capacity of the line buffer (R194). -/
abbrev lineCap : Nat := 64

/-- Upper limit of the 16-bit counters (R45, R47, R48, R56, R69, R169). -/
abbrev count16 : Nat := 65535

end Sys2Proof.Config
end

