-- ==== Sys2Proof/Machine/Bits.lean ====
section
/-! DEFINITION. Byte order, sign reading, saturating counters, index comparison and the two CRCs. -/

namespace Sys2Proof.Machine

/-- A byte of a number below 256. -/
def toByte (n : Nat) : Byte := BitVec.ofNat 8 n

/-- A 16-bit field, low byte first (00_scope.md 4.6). -/
def le16 (n : Nat) : List Byte := [toByte n, toByte (n / 256)]

/-- The byte at an offset of a frame or block; 0 beyond its end. -/
def byteAt (bytes : List Byte) (i : Nat) : Nat := (bytes.getD i 0#8).toNat

/-- The 16-bit field at an offset, low byte first (00_scope.md 4.6). -/
def u16At (bytes : List Byte) (i : Nat) : Nat := byteAt bytes i + 256 * byteAt bytes (i + 1)

/-- Two's complement reading of a 16-bit number (00_scope.md 4.6). -/
def signed16 (n : Nat) : Int := if n < 32768 then (n : Int) else (n : Int) - 65536

/-- The 16-bit two's complement of a signed value. -/
def unsigned16 (v : Int) : Nat := (v % 65536).toNat

/-- The 24-bit field at an offset, low byte first. -/
def u24At (bytes : List Byte) (i : Nat) : Nat := u16At bytes i + 65536 * byteAt bytes (i + 2)

/-- A counter that stays at its upper limit (00_scope.md 4.7). -/
def satInc (limit n : Nat) : Nat := if n < limit then n + 1 else limit

/-- Bit `i` of a number. -/
def bitOf (n i : Nat) : Bool := n / 2 ^ i % 2 == 1

/-- The number of a list of bits, least significant first. -/
def natOfBits : List Bool → Nat
  | [] => 0
  | b :: bs => (if b then 1 else 0) + 2 * natOfBits bs

/-- The bits of a byte, least significant first. -/
def bitsLsb (b : Byte) : List Bool :=
  [b.getLsbD 0, b.getLsbD 1, b.getLsbD 2, b.getLsbD 3, b.getLsbD 4, b.getLsbD 5, b.getLsbD 6, b.getLsbD 7]

/-- The bits of a byte, most significant first. -/
def bitsMsb (b : Byte) : List Bool := (bitsLsb b).reverse

/-- Steps by which `a` lies ahead of `b`, modulo 48,000 (00_scope.md 4.3). -/
def ahead (a b : Nat) : Nat := (a + Config.indexCount - b % Config.indexCount) % Config.indexCount

/-- Index `a` is newer than index `b` (00_scope.md 4.3). -/
def newer (a b : Nat) : Bool := 1 ≤ ahead a b && ahead a b < Config.indexHalf

/-- Signed index distance from `a` to `k`, newer positive, in -24,000..23,999 (R18). -/
def indexDistance (a k : Nat) : Int :=
  if ahead k a < Config.indexHalf then (ahead k a : Int) else (ahead k a : Int) - Config.indexCount

/-- The next sample index (R18). -/
def nextIndex (k : Nat) : Nat := (k + 1) % Config.indexCount

/-- The index `n` steps before `k`, modulo 48,000 (00_scope.md 4.3). -/
def indexBefore (k n : Nat) : Nat := (k + Config.indexCount - n % Config.indexCount) % Config.indexCount

/-- Difference of two tick counts, read as a signed number (R17). -/
def tickDiff (a b : Tick) : Int := (a - b).toInt

/-- A tick moved by a signed number of ticks. -/
def tickAdd (a : Tick) (n : Int) : Tick := a + BitVec.ofInt 32 n

/-- Clamp to a symmetric range. -/
def clampTo (limit v : Int) : Int := max (-limit) (min limit v)

/-! ## CRC-16 of the block and the signature (R190) -/

/-- One bit of the CRC-16: shift left, and combine with 1021h when the bit shifted out differs from
the data bit (R190). -/
def crc16Bit (reg : BitVec 16) (b : Bool) : BitVec 16 :=
  if reg.getLsbD 15 != b then (reg <<< 1) ^^^ 0x1021#16 else reg <<< 1

/-- CRC-16 of a list of bytes, each most significant bit first, from FFFFh (R190). -/
def crc16 (bytes : List Byte) : BitVec 16 :=
  bytes.foldl (fun reg byte => (bitsMsb byte).foldl crc16Bit reg) 0xFFFF#16

/-! ## CRC-32 of the Ethernet frame (R38) -/

/-- One bit of the CRC-32 with generator 04C11DB7h (R38). -/
def crc32Bit (reg : BitVec 32) (b : Bool) : BitVec 32 :=
  if reg.getLsbD 31 != b then (reg <<< 1) ^^^ 0x04C11DB7#32 else reg <<< 1

/-- The CRC-32 register after a list of bytes, each least significant bit first, from FFFFFFFFh (R38). -/
def crc32 (bytes : List Byte) : BitVec 32 :=
  bytes.foldl (fun reg byte => (bitsLsb byte).foldl crc32Bit reg) 0xFFFFFFFF#32

/-- The residue of a frame received well (R38). -/
def crc32Residue : BitVec 32 := 0xC704DD7B#32

/-- Byte `j` of the FCS: the coefficients x³¹-8j down to x²⁴-8j of the complement, the first of them in
the least significant bit, since each byte goes on the wire least significant bit first (R37, R38). -/
def fcsByte (reg : BitVec 32) (j : Nat) : Byte :=
  toByte (natOfBits ((List.range 8).map fun i => !(reg.getLsbD (31 - (8 * j + i)))))

/-- The four FCS bytes of a frame without its FCS (R38). -/
def fcsOf (bytes : List Byte) : List Byte :=
  let reg := crc32 bytes
  [fcsByte reg 0, fcsByte reg 1, fcsByte reg 2, fcsByte reg 3]

end Sys2Proof.Machine
end

