-- ==== Sys2Proof/Machine/State.lean ====
section
/-! DEFINITION. The state of the DZ640 as plain data, block by block, and its value while the part is
held in cold reset. INVENTORY.md lists every field with the rule that names it. -/

namespace Sys2Proof.Machine

/-! ## Shared enumerations -/

/-- Double-point states (00_scope.md 4.8); codes 0..3 in this order. -/
inductive DPoint where
  | opened
  | closed
  | moving
  | invalid
deriving DecidableEq, Repr

/-- Sync states (00_scope.md 4.8); codes 0..5 in this order. -/
inductive SyncState where
  | unlocked
  | acquiring
  | lockedPps
  | lockedPeer
  | lockedSelf
  | holdover
deriving DecidableEq, Repr

/-- Modes of the station (R177). -/
inductive Mode where
  | selftest
  | config
  | test
  | run
  | halted
deriving DecidableEq, Repr

/-- Bay kinds: FEEDER 1, TIE 2 (00_scope.md 5). -/
inductive BayKind where
  | feeder
  | tie
deriving DecidableEq, Repr

/-- Bay kind and the zones of the two sides; `none` is zone 0 (00_scope.md 4.5). -/
structure BayDesc where
  kind : BayKind
  zx : Option Zone
  zy : Option Zone
deriving DecidableEq, Repr

/-- A set of bus zones. -/
abbrev ZoneSet := Tab 4 Bool

/-- Trip states, codes 0..3 in this order (R149). -/
inductive TripState where
  | none
  | zone
  | intertrip
  | retrip
deriving DecidableEq, Repr

/-- Bay information of a contribution (05, section 5.1). -/
structure BayInfo where
  desc : BayDesc
  states : PerDevice DPoint
  bf : Option ZoneSet
  trip : TripState
deriving DecidableEq, Repr

/-- One station's data for one sample index (05, section 5.1). -/
structure Contribution where
  cur : PerPhase Int
  clamp : PerPhase Bool
  valid : Bool
  sync : SyncState
  bay : BayInfo
  path : Option Path
  tick : Option Tick
deriving DecidableEq, Repr

/-! ## Pins and the condition of the hardware -/

/-- Levels of the input lines as the station last saw them (00_scope.md 7). -/
structure Pins where
  porstLow : Bool
  wrstLow : Bool
  lup : PerPath Bool
  contacts : PerDevice Contacts
  blockIn : Bool
deriving DecidableEq, Repr

/-- Sums the datapath forms for one phase of the synthetic group (R164). -/
structure TermSums where
  sigma : Int
  d : Int
  s : Int
deriving DecidableEq, Repr

/-- The phases by name (00_scope.md 4.5). -/
inductive Phase where
  | l1
  | l2
  | l3
deriving DecidableEq, Repr

/-- A wrong answer of a faulty datapath for one mask and phase of the synthetic check (R164).
MODEL's own: assumption log 10. -/
structure Upset where
  mask : Nat
  phase : Phase
  sums : TermSums
deriving DecidableEq, Repr

/-- The condition of the hardware itself. MODEL's own: assumption log 10 and 11. -/
structure Health where
  upsets : List Upset
  faultCellBad : Bool
deriving DecidableEq, Repr

/-! ## Bay Input Unit (01) -/

/-- Progress of the conversion (R2, R3). -/
inductive ConvState where
  | idle
  | waitDrdy
  | reading
deriving DecidableEq, Repr

/-- Debouncing and travel supervision of one device (R10, R12). -/
structure Debounce where
  cand : Option DPoint
  stab : Nat
  deb : DPoint
  travel : Option Nat
  expired : Bool
deriving DecidableEq, Repr

/-- Debouncing of BLOCK IN; `true` is ACTIVE (R11). -/
structure BlockDebounce where
  cand : Option Bool
  stab : Nat
  active : Bool
deriving DecidableEq, Repr

/-- The own-bay record (R14). -/
structure OwnRecord where
  index : Nat
  cur : PerPhase Int
  clamp : PerPhase Bool
  valid : Bool
  states : PerDevice DPoint
deriving DecidableEq, Repr

/-- State of the Bay Input Unit (01). -/
structure Bay where
  conv : ConvState
  /-- The CONV output is high (R2; assumption log 36). -/
  convLine : Bool
  convIndex : Nat
  wait : Nat
  readTicks : Nat
  failRun : Nat
  goodRun : Nat
  adcLost : Bool
  dev : PerDevice Debounce
  blockIn : BlockDebounce
  travel : Bool
  record : Option OwnRecord
deriving DecidableEq, Repr

/-! ## Sample Clock Unit (02) -/

/-- The index authority (R21). -/
inductive Authority where
  | none
  | self
  | peer (n : Station)
deriving DecidableEq, Repr

/-- An own instant, or the base of a step: its index and its tick (R18). -/
structure Stamp where
  index : Nat
  tick : Tick
deriving DecidableEq, Repr

/-- The drift measurement (R33). -/
inductive Drift where
  | idle
  | counting (start : Tick) (marks : Nat)
deriving DecidableEq, Repr

/-- The last second mark; the index is kept in PEER mode (R22). -/
structure Mark where
  tick : Tick
  index : Option Nat
deriving DecidableEq, Repr

/-- State of the Sample Clock Unit (02). -/
structure Clock where
  tick : Tick
  frac : Nat
  trim : Int
  /-- Pending slew, positive when periods are lengthened (R19). -/
  slew : Int
  /-- The period in progress carries a step of the pending slew (R19). -/
  slewLive : Bool
  /-- Period value P of the period in progress, in 1/256 tick (R17). -/
  period : Int
  /-- Ticks left to the next instant (R17). -/
  remaining : Nat
  index : Nat
  /-- An instant has been taken since the last reset or mode entry (R172). -/
  taken : Bool
  /-- The 8 latest instants, newest first (R18). -/
  instants : List Stamp
  stepBase : Option Stamp
  /-- The base of an acquisition step that has fallen due (R24, R25, R26). -/
  stepDue : Option Stamp
  sync : SyncState
  stepPending : Bool
  lockProgress : Nat
  excursion : Nat
  misfit : Nat
  acquiringElapsed : Nat
  holdoverElapsed : Nat
  unlockedRun : Nat
  lastEdge : Option Tick
  sinceEdge : Nat
  validRun : Nat
  qualified : Bool
  codes : Tab 24 SyncState
  authority : Authority
  lastAuth : Option Nat
  /-- Index and arrival tick of the latest used frame of the authority named (R24). -/
  lastUsed : Option Stamp
  batchSum : Int
  batchCount : Nat
  drift : Drift
  lastMark : Option Mark
  sinceMark : Nat
  lastDrift : Option Nat
  driftRejects : Nat
  syncLoss : Bool
deriving DecidableEq, Repr

/-! ## Link Controller (03) -/

/-- Path states (R52). -/
inductive PathState where
  | down
  | up
  | degraded
  | failed
deriving DecidableEq, Repr

/-- The two classes of slots (R42, R43). -/
inductive FrameClass where
  | sample
  | other
deriving DecidableEq, Repr

/-- State of one path (03). The slots hold frames that await transmission; `sending` holds the frame
whose transmission has begun. -/
structure PathCtl where
  state : PathState
  health : Nat
  line : Bool
  /-- `none` is "not run", else whether the loopback passed (R54). -/
  loopback : Option Bool
  sampleSlot : Option (List Byte)
  otherSlot : Option (List Byte)
  sending : Option (FrameClass × List Byte)
  fcs : Nat
  malformed : Nat
  foreign : Nat
deriving DecidableEq, Repr

/-- State of the Link Controller (03). -/
structure Link where
  paths : PerPath PathCtl
  queryPending : Bool
  statusPending : Bool
deriving DecidableEq, Repr

/-! ## Peer Roster (04) -/

/-- Peer states (R59). -/
inductive PeerState where
  | absent
  | joining
  | live
  | silent
  | excluded
deriving DecidableEq, Repr

/-- Protection states of a STATUS frame, codes 0..2 in this order (03, 3.2.1). -/
inductive ProtState where
  | active
  | blocked
  | faulted
deriving DecidableEq, Repr

/-- The record of a peer's last STATUS (R65). -/
structure StatusRec where
  index : Nat
  sync : SyncState
  prot : ProtState
  liveMask : BitVec 24
  authority : Nat
  healthA : Nat
  healthB : Nat
  path : Path
  tick : Tick
  agrees : Bool
deriving DecidableEq, Repr

/-- One roster entry (R56). -/
structure Entry where
  state : PeerState
  frameSeen : Bool
  good : Nat
  missed : Nat
  sig : Option (BitVec 16)
  desc : Option BayDesc
  lastStatus : Option StatusRec
  lastQuery : Option Nat
  querySeen : Bool
  statusSeen : Bool
  late : Nat
  early : Nat
  dup : Nat
  subst : Nat
  viewRun : Nat
  /-- LIVE as the latest closure's update left it, without later exclusions (R51, R60). -/
  liveAtClosure : Bool
  /-- EXCLUDED when the latest closure's update found it (R99). -/
  excludedBefore : Bool
deriving DecidableEq, Repr

/-- State of the Peer Roster (04). -/
structure Roster where
  entries : Tab 24 Entry
  conflictHeard : Bool
  conflictFree : Nat
  conflict : Bool
  view : Bool
deriving DecidableEq, Repr

/-! ## Set Assembler (05) -/

/-- What an open slot holds (05, 5.1). -/
inductive SlotBody where
  | empty
  | filled (c : Contribution) (otherCopy : Bool)
  | damaged
deriving DecidableEq, Repr

/-- An open slot with its parity (R91). -/
structure OpenSlot where
  body : SlotBody
  parityBad : Bool
deriving DecidableEq, Repr

/-- An open set (R73). -/
structure OpenSet where
  index : Nat
  slots : Tab 24 OpenSlot
deriving DecidableEq, Repr

/-- Final statuses of a slot (R83). -/
inductive Final where
  | real
  | substituted
  | missing
deriving DecidableEq, Repr

/-- A closed slot; slots outside the population take no status (05, 5.1). -/
structure ClosedSlot where
  status : Option Final
  contr : Option Contribution
  parityBad : Bool
deriving DecidableEq, Repr

/-- A closed set (R90). -/
structure ClosedSet where
  index : Nat
  slots : Tab 24 ClosedSlot
  ownSync : Bool
deriving DecidableEq, Repr

/-- State of the Set Assembler (05). -/
structure Assembler where
  /-- The open set table, oldest set first. -/
  openSets : List OpenSet
  /-- The history ring, newest set first. -/
  history : List ClosedSet
  gap : Tab 24 Nat
  /-- Substitution marks, newest first; `true` is SUBSTITUTED (R88). -/
  marks : Tab 24 (List Bool)
  lastBay : Tab 24 (Option BayInfo)
  fit : Bool
  misfit : Bool
deriving DecidableEq, Repr

/-! ## Zone Replica Unit (06) -/

/-- A member of a group: the station, and whether its sign is +1 (06). -/
structure Member where
  station : Station
  plus : Bool
deriving DecidableEq, Repr

/-- What the replica knows of one station (06). -/
structure Known where
  desc : Option BayDesc
  conf : PerDevice (Option DPoint)
  openRun : Option Nat
  endOpen : Bool
deriving DecidableEq, Repr

/-- Partition, member lists and check-zone list (R102 to R106). `groupOf` maps a zone to the name of its
group. -/
structure Membership where
  groupOf : Tab 4 Zone
  members : Tab 4 (List Member)
  check : List Station
deriving DecidableEq, Repr

/-- Reason requests of the topology (R107, R108). -/
structure Requests where
  unknown : Tab 4 Bool
  notLive : Tab 4 Bool
  checkUnknown : Bool
  checkNotLive : Bool
deriving DecidableEq, Repr

/-- State of the Zone Replica Unit (06). The membership of the latest closure is the reference
membership when `hasReference` holds (R110, R111). -/
structure Replica where
  known : Tab 24 Known
  membership : Membership
  hasReference : Bool
  requests : Requests
  former : Tab 4 ZoneSet
  ownAttachment : ZoneSet
deriving DecidableEq, Repr

/-! ## Differential Unit (07) -/

/-- An entry of a window ring (R120, R125). -/
structure Term where
  index : Nat
  incomplete : Bool
  d : PerPhase Nat
  s : PerPhase Nat
  parityBad : Bool
deriving DecidableEq, Repr

/-- One slot of the Differential Unit: a group name's or the check zone's (07). -/
structure Slot where
  /-- Oldest entry first. -/
  ring : List Term
  sumD : PerPhase Nat
  sumS : PerPhase Nat
  fill : Nat
  incomplete : Nat
  counter : Nat
  dropOff : Nat
  operate : Bool
  phases : PerPhase Bool
  missing : Bool
  notLive : Bool
  unknown : Bool
deriving DecidableEq, Repr

/-- The external-fault latch of a group (R129). -/
structure Latch where
  evidence : Nat
  latched : Bool
  hold : Nat
deriving DecidableEq, Repr

/-- State of the Differential Unit (07). -/
structure Diff where
  groups : Tab 4 Slot
  latches : Tab 4 Latch
  check : Slot
  ownSync : Bool
  conflict : Bool
  fault : Bool
deriving DecidableEq, Repr

/-! ## Trip Unit (08) -/

/-- The causes of a trip (R145 to R147). -/
structure Causes where
  zone : Bool
  intertrip : Bool
  retrip : Bool
deriving DecidableEq, Repr

/-- Breaker-failure states (R152 to R155). -/
inductive BfState where
  | idle
  | timing
  | failed
deriving DecidableEq, Repr

/-- The trip record (R150). -/
structure TripRecord where
  test : Bool
  index : Nat
  causes : Causes
  reported : TripState
  group : Option Zone
  groupPhases : PerPhase Bool
  checkPhases : PerPhase Bool
  requester : Nat
  bf : BfState
deriving DecidableEq, Repr

/-- What a peer's slot in the previous closed set carried (R157). -/
inductive Carried where
  | unusable
  | absent
  | zones (z : ZoneSet)
deriving DecidableEq, Repr

/-- State of the Trip Unit (08). -/
structure Trip where
  causes : Causes
  demand : Bool
  output : Bool
  testTrip : Bool
  minTime : Nat
  state : TripState
  /-- Last demand cause; `.none` when there was none. -/
  lastCause : TripState
  record : Option TripRecord
  ownSums : PerPhase Nat
  sumsKnown : Bool
  bf : BfState
  bfTimer : Nat
  bfRequest : Option ZoneSet
  confirmed : Tab 24 (Option ZoneSet)
  carried : Tab 24 Carried
deriving DecidableEq, Repr

/-! ## Supervision Unit (09) -/

/-- Fault codes (09, 9.5). -/
inductive FaultCode where
  | datapath
  | storage
deriving DecidableEq, Repr

/-- Blocks that report faults (R166). -/
inductive Reporter where
  | supervision
  | assembler
  | differential
deriving DecidableEq, Repr

/-- Details of a fault (R165, R166). -/
inductive FaultDetail where
  | datapath (mask : Nat) (phase : Phase) (checkSigma checkS : Int) (sums : TermSums)
  | slot (setIndex : Nat) (station : Station) (history : Bool)
  | ring (name : SlotName) (setIndex : Nat)
  | faultRecord
deriving DecidableEq, Repr

/-- A fault as a block reports it (R169). -/
structure FaultReport where
  code : FaultCode
  reporter : Reporter
  detail : FaultDetail
deriving DecidableEq, Repr

/-- The fault record (09, 9.5). -/
structure FaultRecord where
  report : FaultReport
  index : Nat
  mode : Mode
  repeats : Nat
  acknowledged : Bool
deriving DecidableEq, Repr

/-- Halt codes (R172, R180). -/
inductive HaltCode where
  | stop
  | doubleFault
  | configCorrupt
  | selftest (failedStep : Nat)
deriving DecidableEq, Repr

/-- The halt record (R172). The failed step is in the code SELFTEST. -/
structure HaltRecord where
  code : HaltCode
  index : Option Nat
  modeBefore : Mode
  second : Option FaultReport
deriving DecidableEq, Repr

/-- State of the Supervision Unit (09). Alarm set, ALARM and STATUS CODE are in `Outputs`. -/
structure Supervision where
  invertMask : Nat
  recheck : Nat
  fault : Option FaultRecord
  halt : Option HaltRecord
deriving DecidableEq, Repr

/-! ## Mode Controller (10) -/

/-- Kinds of start (R178, R179). -/
inductive StartKind where
  | cold
  | warm
deriving DecidableEq, Repr

/-- States of the configuration store (R187). -/
inductive StoreState where
  | empty
  | loaded
  | committed
deriving DecidableEq, Repr

/-- State of the Mode Controller (10). -/
structure Ctl where
  mode : Mode
  start : StartKind
  step : Option Nat
  strap : Nat
  pben : Bool
  store : StoreState
  block : Option (List Byte)
  signature : Option (BitVec 16)
  tripReported : Bool
  /-- Self-test conversion attempts started (R185). -/
  attempts : Nat
  /-- Ticks since the start of the latest attempt (R185). -/
  attemptTicks : Nat
  /-- The path whose loopback frame is out (R54). -/
  loopPath : Option Path
  /-- The loopback frame that is out on that path (R54). -/
  loopFrame : Option (List Byte)
  loopTicks : Nat
deriving DecidableEq, Repr

/-! ## Service Line Interface (11) -/

/-- Interface states (11). -/
inductive IfState where
  | collecting
  | replying
  | loadSum
  | loadData
  | loadEnd
deriving DecidableEq, Repr

/-- A line with its flags (R194, R196). -/
structure Line where
  buf : List Byte
  long : Bool
  framing : Bool
deriving DecidableEq, Repr

/-- Records of EXAMINE (R201). -/
inductive Rec where
  | mode
  | sync
  | path (p : Path)
  | roster (n : Station)
  | group (g : Zone)
  | check
  | trip
  | fault
  | halt
  | config
  | counts
deriving DecidableEq, Repr

/-- The error lines (11.1). -/
inductive ErrLine where
  | illCmd
  | mode
  | count
  | chksm
  | tmout
  | long
  | illRec
  | illIdx
  | busy
  | field (offset : Nat)
deriving DecidableEq, Repr

/-- A value of a reply line, by the way it is written (R202). -/
inductive Val where
  | num (v : Int)
  | word (w : String)
  | hex (digits v : Nat)
  | nums (vs : List Nat)
  | words (ws : List String)
  | members (ms : List Member)
deriving DecidableEq, Repr

/-- A line of a reply, as the content that `ReplyLine.text` writes out (R196, R202). -/
inductive ReplyLine where
  | name (r : Rec)
  | field (label : String) (v : Val)
  | bytes (offset : Nat) (bs : List Byte)
  | absent
  | noBlock
  /-- The prompt line of the data phase (R198). -/
  | prompt
  | ok
  | error (e : ErrLine)
deriving DecidableEq, Repr

/-- State of the Service Line Interface (11). -/
structure Service where
  iface : IfState
  line : Line
  held : Option Line
  /-- The bytes of the LOAD line, CR included, while its checksum byte is awaited (R197). -/
  loadLine : List Byte
  count : Nat
  sum : Nat
  tframing : Bool
  timer : Nat
  /-- The prompt of the data phase is being sent (R198). -/
  promptBusy : Bool
  /-- The data bytes stored so far, in order (R198). -/
  data : List Byte
  cursor : Option Rec
  /-- Lines of the reply being sent, without CR LF (R196). -/
  reply : List ReplyLine
  /-- A warm reset follows the end of the reply (R200). -/
  warmWaits : Bool
deriving DecidableEq, Repr

/-! ## Outputs -/

/-- The alarm set (R168). -/
structure AlarmSet where
  adcLost : Bool
  travel : Bool
  conflict : Bool
  view : Bool
  syncLoss : Bool
  path : Bool
deriving DecidableEq, Repr

/-- What the station drives: the alarm set, the output lines (R2, R53, R143, R159, R168, R174, R175) and the
transmit errors of the two MACs (R36, R42). -/
structure Outputs where
  alarms : AlarmSet
  alarm : Bool
  statusCode : Nat
  protReady : Bool
  tripLine : Bool
  /-- The CONV line (R2, R16). -/
  conv : Bool
  /-- The MAC of the path has signalled a transmit error to its PHY for a frame that was cut off, and no frame has
  begun on the path since (R36, R42; assumption log 44). -/
  txError : PerPath Bool
deriving DecidableEq, Repr

/-- The state of the DZ640 and the queue of commands that wait. -/
structure State where
  pending : List Instr
  pins : Pins
  health : Health
  bay : Bay
  clock : Clock
  link : Link
  roster : Roster
  asm : Assembler
  replica : Replica
  diff : Diff
  trip : Trip
  sup : Supervision
  ctl : Ctl
  svc : Service
  out : Outputs
deriving DecidableEq, Repr

/-- Why the block stops with a fault: no event of the spec does (INVENTORY.md, Faults), so there is no
reason. Safe: nothing is claimed about a stop that does not exist. -/
inductive Fault where
deriving DecidableEq, Repr

/-- Why a command has no meaning. -/
inductive Refusal where
  /-- Raised by `exec` alone, for a row without a meaning yet. Safe: the model stops. -/
  | notModelled (mnemonic : String)
deriving DecidableEq, Repr

/-! ## Values at cold reset -/

/-- A device before its first raw state (R16). -/
def Debounce.initial : Debounce :=
  { cand := none, stab := 0, deb := .invalid, travel := none, expired := false }

/-- The Bay Input Unit after either reset and on entry to RUN or TEST (R16). -/
def Bay.initial : Bay where
  conv := .idle
  convLine := false
  convIndex := 0
  wait := 0
  readTicks := 0
  failRun := 0
  goodRun := 0
  adcLost := false
  dev := .const Debounce.initial
  blockIn := { cand := none, stab := 0, active := true }
  travel := false
  record := none

/-- The Sample Clock Unit after a cold reset (R35). -/
def Clock.cold : Clock where
  tick := 0#32
  frac := 0
  trim := 0
  slew := 0
  slewLive := false
  period := Config.nominalPeriod
  remaining := 0
  index := 0
  taken := false
  instants := []
  stepBase := none
  stepDue := none
  sync := .unlocked
  stepPending := false
  lockProgress := 0
  excursion := 0
  misfit := 0
  acquiringElapsed := 0
  holdoverElapsed := 0
  unlockedRun := 0
  lastEdge := none
  sinceEdge := 0
  validRun := 0
  qualified := false
  codes := .const .unlocked
  authority := .none
  lastAuth := none
  lastUsed := none
  batchSum := 0
  batchCount := 0
  drift := .idle
  lastMark := none
  sinceMark := 0
  lastDrift := none
  driftRejects := 0
  syncLoss := false

/-- A path after either reset, with its link-up line at `line` and enabled or not (R55). The line of a disabled path
is held as low (assumption log 41). -/
def PathCtl.initial (line enabled : Bool) : PathCtl where
  state := if line && enabled then .up else .down
  health := 0
  line := line && enabled
  loopback := none
  sampleSlot := none
  otherSlot := none
  sending := none
  fcs := 0
  malformed := 0
  foreign := 0

/-- The Link Controller after either reset (R55). -/
def Link.initial (lup : PerPath Bool) (pben : Bool) : Link where
  paths := ⟨PathCtl.initial lup.a true, PathCtl.initial lup.b pben⟩
  queryPending := false
  statusPending := false

/-- A roster entry after either reset (R71). -/
def Entry.initial : Entry where
  state := .absent
  frameSeen := false
  good := 0
  missed := 0
  sig := none
  desc := none
  lastStatus := none
  lastQuery := none
  querySeen := false
  statusSeen := false
  late := 0
  early := 0
  dup := 0
  subst := 0
  viewRun := 0
  liveAtClosure := false
  excludedBefore := false

/-- The Peer Roster after either reset (R71). -/
def Roster.initial : Roster where
  entries := .const Entry.initial
  conflictHeard := false
  conflictFree := 0
  conflict := false
  view := false

/-- The Set Assembler after either reset and on entry to RUN or TEST (R93). -/
def Assembler.initial : Assembler where
  openSets := []
  history := []
  gap := .const 0
  marks := .const []
  lastBay := .const none
  fit := false
  misfit := false

/-- Nothing known of a station (R115). -/
def Known.initial : Known where
  desc := none
  conf := .const none
  openRun := none
  endOpen := false

/-- No reason request (R115). -/
def Requests.none : Requests where
  unknown := .const false
  notLive := .const false
  checkUnknown := false
  checkNotLive := false

/-- The partition of four single zones with empty lists (R115). -/
def Membership.initial : Membership where
  groupOf := .ofFn id
  members := .const []
  check := []

/-- The Zone Replica Unit after either reset (R115). -/
def Replica.initial : Replica where
  known := .const Known.initial
  membership := Membership.initial
  hasReference := false
  requests := Requests.none
  former := .const (.const false)
  ownAttachment := .const false

/-- An empty slot of the Differential Unit (R142). -/
def Slot.initial : Slot where
  ring := []
  sumD := .const 0
  sumS := .const 0
  fill := 0
  incomplete := 0
  counter := 0
  dropOff := 0
  operate := false
  phases := .const false
  missing := false
  notLive := false
  unknown := false

/-- A clear latch (R142). -/
def Latch.initial : Latch := { evidence := 0, latched := false, hold := 0 }

/-- The Differential Unit after either reset (R142). -/
def Diff.initial : Diff where
  groups := .const Slot.initial
  latches := .const Latch.initial
  check := Slot.initial
  ownSync := false
  conflict := false
  fault := false

/-- No cause (R162). -/
def Causes.none : Causes := { zone := false, intertrip := false, retrip := false }

/-- The Trip Unit after a cold reset (R162). -/
def Trip.cold : Trip where
  causes := Causes.none
  demand := false
  output := false
  testTrip := false
  minTime := 0
  state := .none
  lastCause := .none
  record := Option.none
  ownSums := .const 0
  sumsKnown := false
  bf := .idle
  bfTimer := 0
  bfRequest := Option.none
  confirmed := .const Option.none
  carried := .const .unusable

/-- The Supervision Unit after a cold reset (R176). -/
def Supervision.cold : Supervision where
  invertMask := 0
  recheck := 0
  fault := none
  halt := none

/-- The Mode Controller after a cold reset, with the straps as latched before (R178, R193). -/
def Ctl.cold (strap : Nat) (pben : Bool) : Ctl where
  mode := .selftest
  start := .cold
  step := some 7
  strap := strap
  pben := pben
  store := .empty
  block := none
  signature := none
  tripReported := false
  attempts := 0
  attemptTicks := 0
  loopPath := none
  loopFrame := none
  loopTicks := 0

/-- A cleared line (R203). -/
def Line.clear : Line := { buf := [], long := false, framing := false }

/-- The Service Line Interface after either reset (R203). -/
def Service.initial : Service where
  iface := .collecting
  line := Line.clear
  held := none
  loadLine := []
  count := 0
  sum := 0
  tframing := false
  timer := 0
  promptBusy := false
  data := []
  cursor := none
  reply := []
  warmWaits := false

/-- The outputs while PORST is low, with the PATH alarm of the path states (R168, R178). -/
def Outputs.held (path : Bool) : Outputs where
  alarms :=
    { adcLost := false, travel := false, conflict := false, view := false, syncLoss := false,
      path := path }
  alarm := false
  statusCode := 7
  protReady := false
  tripLine := false
  conv := false
  txError := .const false

/-- The input lines of `State.reset`: PORST low, every other level a DESIGN CHOICE (assumption log 6). -/
def Pins.initial : Pins where
  porstLow := true
  wrstLow := false
  lup := .const false
  contacts := .const { openOn := false, closedOn := false }
  blockIn := true

/-- The machine held in cold reset, PORST low (R178): the state from which PORST_RISE starts the part.
Assumption log 6 and 7 name the values the spec does not give. -/
def State.reset : State where
  pending := []
  pins := Pins.initial
  health := { upsets := [], faultCellBad := false }
  bay := Bay.initial
  clock := Clock.cold
  link := Link.initial Pins.initial.lup false
  roster := Roster.initial
  asm := Assembler.initial
  replica := Replica.initial
  diff := Diff.initial
  trip := Trip.cold
  sup := Supervision.cold
  ctl := Ctl.cold 0 false
  svc := Service.initial
  out := Outputs.held true

end Sys2Proof.Machine
end

