-- ==== Sys2Proof/Machine/Settings.lean ====
section
/-! DEFINITION. The settings as every block reads them from the configuration store at each use
(10.4, R187), the population, and the names of zones and stations as numbers. With no stored block every
byte reads 0 (assumption log 20). -/

namespace Sys2Proof.Machine

/-- The stored block's bytes, or none of them (R187). -/
def State.blockBytes (s : State) : List Byte := s.ctl.block.getD []

/-- The byte at an offset of the stored block (10.4). -/
def State.set8 (s : State) (i : Nat) : Nat := byteAt s.blockBytes i

/-- The 16-bit field at an offset of the stored block (10.4). -/
def State.set16 (s : State) (i : Nat) : Nat := u16At s.blockBytes i

/-- Zone numbers 1..4; 0 and all else is "no zone" (00_scope.md 4.5). -/
def zoneOf (n : Nat) : Option Zone :=
  match n with
  | 1 => some 0
  | 2 => some 1
  | 3 => some 2
  | 4 => some 3
  | _ => none

/-- The number of a side's zone, 0 when it has none. -/
def zoneNum : Option Zone → Nat
  | none => 0
  | some z => z.val + 1

/-- The station of a number 1..24. -/
def stationOf (n : Nat) : Option Station :=
  if h : 1 ≤ n ∧ n ≤ 24 then some ⟨n - 1, by omega⟩ else none

/-- Every station, ascending. -/
def stations : List Station := List.finRange 24

/-- Every zone, ascending. -/
def zones : List Zone := [0, 1, 2, 3]

/-- The own station, when the latched number is 1..24 (R178). -/
def State.own (s : State) : Option Station := stationOf s.ctl.strap

/-- Nominal samples per cycle N: 40 at 60 Hz, else 48 (00_scope.md 4.2; byte 2). -/
def State.cycleN (s : State) : Nat := if s.set8 2 = 60 then 40 else 48

/-- Window length W = N/2 (00_scope.md 4.2). -/
def State.windowW (s : State) : Nat := s.cycleN / 2

/-- Sync mode PPS; otherwise PEER (byte 3). -/
def State.syncPps (s : State) : Bool := s.set8 3 == 1

/-- The population mask contains the station (bytes 4..6). -/
def State.inMask (s : State) (n : Station) : Bool := bitOf (u24At s.blockBytes 4) n.val

/-- The own number is this station's. -/
def State.isOwn (s : State) (n : Station) : Bool := s.own == some n

/-- The population: the mask, or in TEST the own station alone (R191). -/
def State.inPop (s : State) (n : Station) : Bool :=
  if s.ctl.mode = .test then s.isOwn n else s.inMask n

/-- The peers of the population. -/
def State.isPeer (s : State) (n : Station) : Bool := s.inPop n && !s.isOwn n

/-- Nop (byte 7). -/
def State.nop (s : State) : Nat := s.set8 7
/-- Idmin (bytes 8..9). -/
def State.idmin (s : State) : Nat := s.set16 8
/-- Slope k (byte 10). -/
def State.slopeK (s : State) : Nat := s.set8 10
/-- Slope kL (byte 11). -/
def State.slopeKL (s : State) : Nat := s.set8 11
/-- Slope kc (byte 12). -/
def State.slopeKc (s : State) : Nat := s.set8 12
/-- Ta (byte 13). -/
def State.ta (s : State) : Nat := s.set8 13
/-- Iext (bytes 14..15). -/
def State.iext (s : State) : Nat := s.set16 14
/-- Thold (bytes 16..17). -/
def State.thold (s : State) : Nat := s.set16 16
/-- Tend (byte 21). -/
def State.tend (s : State) : Nat := s.set8 21
/-- Ref lo (bytes 28..29). -/
def State.refLo (s : State) : Int := signed16 (s.set16 28)
/-- Ref hi (bytes 30..31). -/
def State.refHi (s : State) : Int := signed16 (s.set16 30)
/-- Tbf (bytes 36..37). -/
def State.tbf (s : State) : Nat := s.set16 36
/-- Ibf (bytes 38..39). -/
def State.ibf (s : State) : Nat := s.set16 38
/-- Tmin (bytes 40..41). -/
def State.tmin (s : State) : Nat := s.set16 40
/-- BF breaker criterion (byte 42). -/
def State.bfBreaker (s : State) : Bool := s.set8 42 == 1
/-- Holdover limit in instants (byte 43, R32). -/
def State.holdoverLimit (s : State) : Nat := s.set8 43 * Config.sampleRate
/-- Tlink (bytes 44..45). -/
def State.tlink (s : State) : Nat := s.set16 44
/-- Link type (bytes 46..47). -/
def State.linkType (s : State) : Nat := s.set16 46
/-- M (byte 54). -/
def State.marksM (s : State) : Nat := s.set8 54
/-- Debounce count (byte 55). -/
def State.debounceCount (s : State) : Nat := s.set8 55

/-- The scale factors m1, m2, m3 (bytes 22..27). -/
def State.scale (s : State) : PerPhase Nat := ⟨s.set16 22, s.set16 24, s.set16 26⟩

/-- Travel time of a device: the disconnectors share one (bytes 32..35). -/
def State.travelTime (s : State) : Device → Nat
  | .x => s.set16 32
  | .y => s.set16 32
  | .breaker => s.set16 34

/-- The group address, byte 48 first (bytes 48..53). -/
def State.groupAddress (s : State) : List Byte := (s.blockBytes.drop 48).take 6

/-- The own bay description of the configuration (bytes 18..20). -/
def State.ownDesc (s : State) : BayDesc where
  kind := if s.set8 18 = 2 then .tie else .feeder
  zx := zoneOf (s.set8 19)
  zy := zoneOf (s.set8 20)

/-- The settings signature over bytes 1..17 of a block (R190). -/
def signatureOf (block : List Byte) : BitVec 16 := crc16 ((block.drop 1).take 17)

/-- The block CRC over bytes 0..55 (R190). -/
def blockCrc (block : List Byte) : BitVec 16 := crc16 (block.take 56)

/-- The stored CRC of bytes 56..57 agrees with the block (R190). -/
def blockCrcGood (block : List Byte) : Bool := (blockCrc block).toNat == u16At block 56

/-- The own settings signature; 0 while there is none (assumption log 20). -/
def State.ownSig (s : State) : BitVec 16 := s.ctl.signature.getD 0#16

end Sys2Proof.Machine

namespace Sys2Proof

/-- Something for one path. -/
def PerPath.get {α : Type} (p : PerPath α) : Path → α
  | .a => p.a
  | .b => p.b

/-- Replace what stands for one path. -/
def PerPath.set {α : Type} (p : PerPath α) (q : Path) (v : α) : PerPath α :=
  match q with
  | .a => { p with a := v }
  | .b => { p with b := v }

/-- Something for one device. -/
def PerDevice.get {α : Type} (p : PerDevice α) : Device → α
  | .x => p.x
  | .y => p.y
  | .breaker => p.breaker

/-- Replace what stands for one device. -/
def PerDevice.set {α : Type} (p : PerDevice α) (d : Device) (v : α) : PerDevice α :=
  match d with
  | .x => { p with x := v }
  | .y => { p with y := v }
  | .breaker => { p with breaker := v }

/-- Something for one phase. -/
def PerPhase.get {α : Type} (p : PerPhase α) : Machine.Phase → α
  | .l1 => p.l1
  | .l2 => p.l2
  | .l3 => p.l3

/-- Some phase holds. -/
def PerPhase.any (p : PerPhase Bool) : Bool := p.l1 || p.l2 || p.l3

/-- Every phase holds. -/
def PerPhase.all (p : PerPhase Bool) : Bool := p.l1 && p.l2 && p.l3

/-- The other path. -/
def Path.other : Path → Path
  | .a => .b
  | .b => .a

end Sys2Proof

namespace Sys2Proof.Machine

/-- A sync state is acceptable (00_scope.md 4.8). -/
def SyncState.acceptable : SyncState → Bool
  | .lockedPps => true
  | .lockedPeer => true
  | .lockedSelf => true
  | .holdover => true
  | .unlocked => false
  | .acquiring => false

/-- The station is held by PORST or WRST (R178, R179). -/
def State.resetHeld (s : State) : Bool := s.pins.porstLow || s.pins.wrstLow

/-- The mode is RUN and no reset holds the station. -/
def State.inRun (s : State) : Bool := s.ctl.mode == .run && !s.resetHeld

/-- The mode is RUN or TEST and no reset holds the station. -/
def State.working (s : State) : Bool := (s.ctl.mode == .run || s.ctl.mode == .test) && !s.resetHeld

/-- Path B is there for the station: path A always, path B when its strap is latched on (R53). -/
def State.enabled (s : State) : Path → Bool
  | .a => true
  | .b => s.ctl.pben

end Sys2Proof.Machine
end

