-- ==== Sys2Proof/Machine/Operands.lean ====
section
/-! DEFINITION. What the commands bring, read as the rules read it: the codes of the ADC (R3), the bytes
of a received frame (R45 to R47) and the words of a service line (R194, R195). -/

namespace Sys2Proof.Machine

/-! ## The ADC read (R3) -/

/-- The four 16-bit codes of the read: L1, L2, L3 and the reference, each sent most significant bit
first, the first bit taken being bit 63 (R3). -/
def adcCodes (bits : BitVec 64) : PerPhase Int × Int :=
  let n := bits.toNat
  (⟨signed16 (n / 2 ^ 48 % 65536), signed16 (n / 2 ^ 32 % 65536), signed16 (n / 2 ^ 16 % 65536)⟩,
    signed16 (n % 65536))

/-! ## Codes of states (00_scope.md 4.8, 03 section 3.2.1) -/

/-- Double-point state of a code. -/
def dpointOf : Nat → Option DPoint
  | 0 => some .opened
  | 1 => some .closed
  | 2 => some .moving
  | 3 => some .invalid
  | _ => none

/-- Code of a double-point state. -/
def DPoint.code : DPoint → Nat
  | .opened => 0
  | .closed => 1
  | .moving => 2
  | .invalid => 3

/-- Sync state of a code. -/
def syncOf : Nat → Option SyncState
  | 0 => some .unlocked
  | 1 => some .acquiring
  | 2 => some .lockedPps
  | 3 => some .lockedPeer
  | 4 => some .lockedSelf
  | 5 => some .holdover
  | _ => none

/-- Code of a sync state. -/
def SyncState.code : SyncState → Nat
  | .unlocked => 0
  | .acquiring => 1
  | .lockedPps => 2
  | .lockedPeer => 3
  | .lockedSelf => 4
  | .holdover => 5

/-- Trip state of a code. -/
def tripOf : Nat → Option TripState
  | 0 => some .none
  | 1 => some .zone
  | 2 => some .intertrip
  | 3 => some .retrip
  | _ => none

/-- Code of a trip state. -/
def TripState.code : TripState → Nat
  | .none => 0
  | .zone => 1
  | .intertrip => 2
  | .retrip => 3

/-- Protection state of a code. -/
def protOf : Nat → Option ProtState
  | 0 => some .active
  | 1 => some .blocked
  | 2 => some .faulted
  | _ => none

/-- Code of a protection state. -/
def ProtState.code : ProtState → Nat
  | .active => 0
  | .blocked => 1
  | .faulted => 2

/-- Code of a bay kind. -/
def BayKind.code : BayKind → Nat
  | .feeder => 1
  | .tie => 2

/-- The zones of a side pass the checks of a bay kind (R47, 10.4). -/
def descOk (kind : BayKind) (zx zy : Nat) : Bool :=
  match kind with
  | .feeder => !(zx == 0 && zy == 0)
  | .tie => zx != 0 && zy != 0 && zx != zy

/-- A bay description from its three bytes, when they pass the checks of R47. -/
def descOf (k zx zy : Nat) : Option BayDesc :=
  if zx ≤ 4 ∧ zy ≤ 4 then
    match k with
    | 1 => if descOk .feeder zx zy then some ⟨.feeder, zoneOf zx, zoneOf zy⟩ else none
    | 2 => if descOk .tie zx zy then some ⟨.tie, zoneOf zx, zoneOf zy⟩ else none
    | _ => none
  else none

/-- The set of zones of a mask, bit 0 for zone 1 (03, 3.2.1). -/
def zoneSetOf (mask : Nat) : ZoneSet := .ofFn fun z => bitOf mask z.val

/-- The mask of a set of zones (03, 3.2.1). -/
def ZoneSet.mask (z : ZoneSet) : Nat := natOfBits z.list

/-- A set of zones is not empty. -/
def ZoneSet.nonempty (z : ZoneSet) : Bool := z.list.any id

/-! ## Received frames -/

/-- What a payload carries beyond the shared header (03, 3.2.1). -/
inductive Body where
  | sample (valid : Bool) (clamp : PerPhase Bool) (cur : PerPhase Int) (bay : BayInfo)
  | query
  | status (prot : ProtState) (desc : BayDesc) (liveMask : BitVec 24) (authority healthA healthB : Nat)
deriving DecidableEq, Repr

/-- A frame that has passed the payload checks (R47). -/
structure Frame where
  sender : Station
  index : Nat
  sync : SyncState
  sig : BitVec 16
  body : Body
deriving DecidableEq, Repr

/-- Step 1: length, CRC over the whole frame and the PHY's report (R45). -/
def frameGood (bytes : List Byte) (phyError : Bool) : Bool :=
  64 ≤ bytes.length && bytes.length ≤ 1518 && crc32 bytes == crc32Residue && !phyError

/-- Step 2: the configured group address and link type (R46). -/
def State.schemeFrame (s : State) (bytes : List Byte) : Bool :=
  bytes.take 6 == s.groupAddress && byteAt bytes 12 * 256 + byteAt bytes 13 == s.linkType

/-- The body of a SAMPLE payload, when it passes its checks (R47). Currents without measurement valid
are not checked and are read as 0 (R47, R76). -/
def sampleBody (p : List Byte) : Option Body := do
  let flags := byteAt p 5
  let bf := byteAt p 14
  let desc ← descOf (byteAt p 8) (byteAt p 9) (byteAt p 11)
  let x ← dpointOf (byteAt p 10)
  let y ← dpointOf (byteAt p 12)
  let b ← dpointOf (byteAt p 13)
  let trip ← tripOf (byteAt p 15)
  let valid := bitOf flags 0
  let raw : PerPhase Nat := ⟨u16At p 16, u16At p 18, u16At p 20⟩
  if flags < 32 ∧ bf < 16 ∧ bitOf flags 4 = (bf != 0) ∧
      (valid = true → raw.l1 ≠ 32768 ∧ raw.l2 ≠ 32768 ∧ raw.l3 ≠ 32768) then
    some (.sample valid ⟨bitOf flags 1, bitOf flags 2, bitOf flags 3⟩
      (if valid then raw.map signed16 else .const 0)
      { desc := desc, states := ⟨x, y, b⟩, bf := if bf = 0 then none else some (zoneSetOf bf), trip := trip })
  else none

/-- The body of a STATUS payload, when it passes its checks (R47). -/
def statusBody (p : List Byte) : Option Body := do
  let prot ← protOf (byteAt p 5)
  let desc ← descOf (byteAt p 8) (byteAt p 9) (byteAt p 10)
  if byteAt p 14 ≤ 24 then
    some (.status prot desc (BitVec.ofNat 24 (u24At p 11)) (byteAt p 14) (byteAt p 15) (byteAt p 16))
  else none

/-- The body of a payload by its kind (R47). -/
def bodyOf (p : List Byte) : Option Body :=
  match byteAt p 0 with
  | 1 => sampleBody p
  | 2 => some .query
  | 3 => statusBody p
  | _ => none

/-- Step 3: the payload checks; `none` is a malformed frame (R47). -/
def parseFrame (bytes : List Byte) : Option Frame := do
  let p := bytes.drop 14
  let sender ← stationOf (byteAt p 1)
  let sync ← syncOf (byteAt p 4)
  let body ← bodyOf p
  if u16At p 2 < Config.indexCount then
    some { sender := sender, index := u16At p 2, sync := sync, sig := BitVec.ofNat 16 (u16At p 6), body := body }
  else none

/-! ## Words of a service line (R194, R195) -/

/-- The space that separates words (R194). -/
def spByte : Byte := 0x20#8

/-- The line feed, ignored in a line (R194). -/
def lfByte : Byte := 0x0A#8

/-- The carriage return that ends a line (R194). -/
def crChar : Byte := 0x0D#8

/-- Letters are compared without regard to case (R194). -/
def upper (b : Byte) : Byte := if 0x61#8 ≤ b ∧ b ≤ 0x7A#8 then b - 0x20#8 else b

/-- The words of a line, in capitals, `cur` being the reversed word in progress. -/
def wordsFrom (cur : List Byte) : List Byte → List (List Byte)
  | [] => if cur.isEmpty then [] else [cur.reverse]
  | b :: bs =>
    if b = spByte then
      (if cur.isEmpty then wordsFrom [] bs else cur.reverse :: wordsFrom [] bs)
    else wordsFrom (upper b :: cur) bs

/-- The words of a line, in capitals (R194). -/
def wordsOf (buf : List Byte) : List (List Byte) := wordsFrom [] buf

/-- The command names (R195). -/
inductive Command where
  | load
  | commit
  | test
  | endtest
  | stop
  | warm
  | ack
  | examine
deriving DecidableEq, Repr

/-- The command of a first word, E being the short form of EXAMINE (R195). -/
def commandOf (w : List Byte) : Option Command :=
  if w = [0x4C#8, 0x4F#8, 0x41#8, 0x44#8] then some .load
  else if w = [0x43#8, 0x4F#8, 0x4D#8, 0x4D#8, 0x49#8, 0x54#8] then some .commit
  else if w = [0x54#8, 0x45#8, 0x53#8, 0x54#8] then some .test
  else if w = [0x45#8, 0x4E#8, 0x44#8, 0x54#8, 0x45#8, 0x53#8, 0x54#8] then some .endtest
  else if w = [0x53#8, 0x54#8, 0x4F#8, 0x50#8] then some .stop
  else if w = [0x57#8, 0x41#8, 0x52#8, 0x4D#8] then some .warm
  else if w = [0x41#8, 0x43#8, 0x4B#8] then some .ack
  else if w = [0x45#8, 0x58#8, 0x41#8, 0x4D#8, 0x49#8, 0x4E#8, 0x45#8] then some .examine
  else if w = [0x45#8] then some .examine
  else none

/-- The row of the opcode table a CR is, by the line it ends. -/
inductive LineRow where
  | dropped
  | illCmd
  | load
  | commit
  | test
  | endtest
  | stop
  | warm
  | ack
  | examine
  | examineNext
  | examineAgain
deriving DecidableEq, Repr

/-- The row of an EXAMINE line by the words after the name (R201). -/
def examineRow : List (List Byte) → LineRow
  | [] => .examineNext
  | w :: _ => if w = [0x2B#8] then .examineNext else if w = [0x2A#8] then .examineAgain else .examine

/-- The row of a command's line by the words after its name: a command without argument takes none, and
with one its line is ILL_CMD's (R195). -/
def commandRow (c : Command) (rest : List (List Byte)) : LineRow :=
  match c with
  | .load => .load
  | .examine => examineRow rest
  | .commit => if rest.isEmpty then .commit else .illCmd
  | .test => if rest.isEmpty then .test else .illCmd
  | .endtest => if rest.isEmpty then .endtest else .illCmd
  | .stop => if rest.isEmpty then .stop else .illCmd
  | .warm => if rest.isEmpty then .warm else .illCmd
  | .ack => if rest.isEmpty then .ack else .illCmd

/-- The row of the opcode table that the CR of a line is (R194, R195). -/
def lineRow (l : Line) : LineRow :=
  match wordsOf l.buf with
  | [] => .dropped
  | w :: rest =>
    if l.long || l.framing then .illCmd else
    match commandOf w with
    | none => .illCmd
    | some c => commandRow c rest

/-- Decimal value of the digits of a word; `none` when it is empty or holds another character. -/
def decimalOf (w : List Byte) : Option Nat :=
  if w.isEmpty then none else
  w.foldl (fun acc b =>
    match acc with
    | none => none
    | some n => if 0x30#8 ≤ b ∧ b ≤ 0x39#8 then some (10 * n + (b.toNat - 48)) else none) (some 0)

end Sys2Proof.Machine
end

