-- ==== Sys2Proof/Machine/Flags.lean ====
section
/-! DEFINITION. The alarms, the block reasons and the output lines as functions of the state (R36, R42, R53,
R134, R143, R145, R159, R168, R174, R175), and `State.driven`, which drives them after an event. -/

namespace Sys2Proof.Machine

/-- A path state raises PATH: DOWN or FAILED (R53). -/
def PathState.bad : PathState → Bool
  | .down => true
  | .failed => true
  | .up => false
  | .degraded => false

/-- A path hands frames on: UP or DEGRADED (R49). -/
def PathState.good (p : PathState) : Bool := !p.bad

/-- PATH: an enabled path is DOWN or FAILED (R53). -/
def State.pathAlarm (s : State) : Bool :=
  s.link.paths.a.state.bad || (s.ctl.pben && s.link.paths.b.state.bad)

/-- The alarm set as its owners report it (R168). -/
def State.alarmSet (s : State) : AlarmSet where
  adcLost := s.bay.adcLost
  travel := s.bay.travel
  conflict := s.roster.conflict
  view := s.roster.view
  syncLoss := s.clock.syncLoss
  path := s.pathAlarm

/-- The alarm set is not empty. -/
def AlarmSet.any (a : AlarmSet) : Bool :=
  a.adcLost || a.travel || a.conflict || a.view || a.syncLoss || a.path

/-- A fault record is present and unacknowledged (R174). -/
def State.faultOpen (s : State) : Bool :=
  match s.sup.fault with
  | some r => !r.acknowledged
  | none => false

/-- ALARM (R174); deasserted while PORST is low (R178). -/
def State.alarmOut (s : State) : Bool :=
  !s.pins.porstLow && (s.alarmSet.any || s.faultOpen || s.ctl.mode == .halted)

/-- STATUS CODE of a halt (R175). -/
def HaltCode.pins : HaltCode → Nat
  | .stop => 12
  | .doubleFault => 13
  | .configCorrupt => 14
  | .selftest n => n

/-- STATUS CODE (R175, R181); 7 while a reset holds the station (R178, R179). -/
def State.statusOut (s : State) : Nat :=
  if s.resetHeld then 7 else
  match s.ctl.mode with
  | .selftest => s.ctl.step.getD 1
  | .run => 0
  | .config => 9
  | .test => 10
  | .halted =>
    match s.sup.halt with
    | some r => r.code.pins
    | none => 12

/-- The unit-wide block reasons (R134). -/
def Diff.unitWide (d : Diff) : Bool := d.ownSync || d.conflict || d.fault

/-- A slot is BLOCKED: its block reasons are not empty (R134). -/
def Diff.blocked (d : Diff) (t : Slot) : Bool := d.unitWide || t.missing || t.notLive || t.unknown

/-- Group name `g` is in use: zone `g` is the lowest of its group (R103). -/
def Membership.inUse (m : Membership) (g : Zone) : Bool := m.groupOf.get g == g

/-- Group `g` is attached: in use and holding a zone of the set (R145). -/
def Membership.attached (m : Membership) (att : ZoneSet) (g : Zone) : Bool :=
  m.inUse g && zones.any fun z => att.get z && m.groupOf.get z == g

/-- The attached groups of the latest closure (R145). -/
def State.attachedGroup (s : State) (g : Zone) : Bool :=
  s.replica.membership.attached s.replica.ownAttachment g

/-- PROT READY (R159). -/
def State.protReadyOut (s : State) : Bool :=
  s.inRun && s.clock.sync.acceptable
    && zones.all (fun g => !(s.attachedGroup g && s.diff.blocked (s.diff.groups.get g)))
    && !s.diff.blocked s.diff.check && !s.diff.fault

/-- The TRIP line: the TRIP output in RUN, low in every other mode (R143). -/
def State.tripLineOut (s : State) : Bool := s.inRun && s.trip.output

/-- The transmit error of a path stands until the path next begins a frame (R36, R42; assumption log 44). -/
def State.txErrorOut (s : State) (p : Path) : Bool :=
  s.out.txError.get p && (s.link.paths.get p).sending.isNone

/-- The outputs the state drives (R2, R36, R42, R53, R143, R159, R168, R174, R175). -/
def State.outputs (s : State) : Outputs where
  alarms := s.alarmSet
  alarm := s.alarmOut
  statusCode := s.statusOut
  protReady := s.protReadyOut
  tripLine := s.tripLineOut
  conv := s.bay.convLine
  txError := ⟨s.txErrorOut .a, s.txErrorOut .b⟩

/-- The state with its outputs driven: R53, R159, R168, R174 and R175 evaluate them at each change, so
they stand evaluated after every event. -/
def State.driven (s : State) : State := { s with out := s.outputs }

/-- The answer of a command: it always completes, with its outputs driven. -/
def answer (s : State) : Host.Outcome State Fault Refusal := .next s.driven

end Sys2Proof.Machine
end

