-- ==== Sys2Proof/Machine/Ops.lean ====
section
/-! DEFINITION. Operations every family shares: the passage of time, the sync state's entries, block
reasons, mode entries and exits, halts, blocking faults and the reset values. -/

namespace Sys2Proof.Machine

/-! ## Time (R17, R2, R3, R20, R22, R54, R185, 11) -/

/-- Ticks pass for the conversion in progress (R2, R3). A read whose 256 ticks have passed stays in READING
until READ_COMPLETE brings its bits (assumption log 35). -/
def Bay.progress (n : Nat) (b : Bay) : Bay :=
  match b.conv with
  | .idle => b
  | .waitDrdy => { b with wait := min Config.adcLimit (b.wait + n) }
  | .reading => { b with readTicks := min Config.readTicks (b.readTicks + n) }

/-- Ticks pass for the Bay Input Unit; the pulse on CONV ends with the tick in which it began (assumption
log 36). -/
def Bay.elapse (n : Nat) (b : Bay) : Bay := { b.progress n with convLine := b.convLine && n == 0 }

/-- Ticks pass for the interval, the edge timer and the mark timer while instants are generated. -/
def Clock.elapseTimers (n : Nat) (c : Clock) : Clock :=
  { c with
    remaining := c.remaining - n
    sinceEdge := if c.lastEdge.isSome then min Config.markLimit (c.sinceEdge + n) else c.sinceEdge
    sinceMark := if c.lastMark.isSome then min Config.markLimit (c.sinceMark + n) else c.sinceMark }

/-- Ticks pass for the self-test's attempt and loopback timers (R54, R185). -/
def Ctl.elapse (n : Nat) (c : Ctl) : Ctl :=
  { c with
    attemptTicks := min Config.attemptTicks (c.attemptTicks + n)
    loopTicks := if c.loopPath.isSome then min Config.loopbackTicks (c.loopTicks + n) else c.loopTicks }

/-- The transfer timer runs: in LOAD-SUM and LOAD-END, and in LOAD-DATA from the first byte or from the
end of the prompt (R197, R198). -/
def Service.timerRuns (v : Service) : Bool :=
  match v.iface with
  | .loadSum => true
  | .loadEnd => true
  | .loadData => !v.promptBusy || v.count != 0
  | .collecting => false
  | .replying => false

/-- Ticks pass for the transfer timer, which tells a byte within 2 s from a later one (R197, R198). -/
def Service.elapse (n : Nat) (v : Service) : Service :=
  if v.timerRuns then { v with timer := min (Config.twoSeconds + 1) (v.timer + n) } else v

/-- `n` ticks of MCLK pass. The tick count and the service line's timers run in every mode (R17, 11); the
other timers stand still in HALTED. While PORST is low the tick count stands at its cold-reset value
(assumption log 8). -/
def State.elapse (n : Nat) (s : State) : State :=
  if s.pins.porstLow then s else
  let c := { s.clock with tick := s.clock.tick + BitVec.ofNat 32 n }
  if s.pins.wrstLow then { s with clock := c } else
  match s.ctl.mode with
  | .halted => { s with clock := c, svc := s.svc.elapse n }
  | .config => { s with clock := c, svc := s.svc.elapse n }
  | .selftest => { s with clock := c, svc := s.svc.elapse n, bay := s.bay.elapse n, ctl := s.ctl.elapse n }
  | .run => { s with clock := c.elapseTimers n, svc := s.svc.elapse n, bay := s.bay.elapse n }
  | .test => { s with clock := c.elapseTimers n, svc := s.svc.elapse n, bay := s.bay.elapse n }

/-- `n` ticks can pass before the next sample instant: an event that lies beyond it is not the next one
(assumption log 3). -/
def State.passes (s : State) (n : Nat) : Bool := !s.working || decide (n ≤ s.clock.remaining)

/-! ## The sample period (R17, R19) -/

/-- Slew step of a period in 1/256 tick (R17). -/
def slewStep (slew : Int) : Int := if slew > 0 then 256 else if slew < 0 then -256 else 0

/-- Start a period: form P from the trim and the pending slew as they stand, and the ticks to the next
instant from F + P (R17). -/
def Clock.startPeriod (c : Clock) : Clock :=
  let p := Config.nominalPeriod + c.trim + slewStep c.slew
  let total := (c.frac : Int) + p
  { c with period := p, slewLive := c.slew != 0, remaining := (total / 256).toNat, frac := (total % 256).toNat }

/-- Clear the pending slew (R19). -/
def Clock.clearSlew (c : Clock) : Clock := { c with slew := 0, slewLive := false }

/-- A new slew replaces any slew still pending and applies from the next period (R19). -/
def Clock.setSlew (c : Clock) (v : Int) : Clock := { c with slew := v, slewLive := false }

/-- Clear the slew batch (R27). -/
def Clock.clearBatch (c : Clock) : Clock := { c with batchSum := 0, batchCount := 0 }

/-- What the entry to a sync state sets (R19, R23, R32). -/
def Clock.entrySets (c : Clock) : SyncState → Clock
  | .acquiring =>
    { c.clearSlew.clearBatch with
      stepPending := true, lockProgress := 0, excursion := 0, misfit := 0, acquiringElapsed := 0, lastAuth := none }
  | .holdover => { c.clearSlew.clearBatch with holdoverElapsed := 0 }
  | .unlocked => c.clearSlew
  | .lockedSelf => c.clearSlew
  | .lockedPps => c
  | .lockedPeer => c

/-- The drift measurement runs in ACQUIRING, LOCKED-PPS and LOCKED-PEER (R33). -/
def SyncState.drifts : SyncState → Bool
  | .acquiring => true
  | .lockedPps => true
  | .lockedPeer => true
  | .unlocked => false
  | .lockedSelf => false
  | .holdover => false

/-- The sync state becomes `n`: the entry's values, the end of the drift measurement outside its three
states (R33), and the end of SYNC LOSS when the state is acceptable (R34). -/
def Clock.enter (c : Clock) (n : SyncState) : Clock :=
  let c := { c.entrySets n with sync := n, stepDue := none }
  let c := if n.drifts then c else { c with drift := .idle }
  if n.acceptable then { c with unlockedRun := 0, syncLoss := false } else c

/-! ## Block reasons (R134, R138, R139) -/

/-- Clear OPERATE, the operated phases and the counters of a slot (R134). -/
def Slot.unoperate (t : Slot) : Slot :=
  { t with operate := false, phases := .const false, counter := 0, dropOff := 0 }

/-- After a change of reasons from `before` to `d`: a slot that was not BLOCKED and now is loses OPERATE
at once (R134). -/
def Diff.reblock (before d : Diff) : Diff :=
  { d with
    groups := .ofFn fun g =>
      if !before.blocked (before.groups.get g) && d.blocked (d.groups.get g)
      then (d.groups.get g).unoperate else d.groups.get g
    check := if !before.blocked before.check && d.blocked d.check then d.check.unoperate else d.check }

/-- Add the CONFLICT reason (R138). -/
def Diff.addConflict (d : Diff) : Diff := Diff.reblock d { d with conflict := true }

/-- Withdraw the CONFLICT reason (R138). -/
def Diff.dropConflict (d : Diff) : Diff := { d with conflict := false }

/-- Add the FAULT reason (R139). -/
def Diff.addFault (d : Diff) : Diff := Diff.reblock d { d with fault := true }

/-! ## Leaving a mode (R4, R33, R36, R143) -/

/-- Abandon the conversion in progress: no record, no change to the runs, CONV low (R4, R16). -/
def Bay.abandon (b : Bay) : Bay := { b with conv := .idle, convLine := false }

/-- Empty both slots of a path and cut off its transmission (R36, R42). -/
def PathCtl.cut (p : PathCtl) : PathCtl := { p with sampleSlot := none, otherSlot := none, sending := none }

/-- The outputs with a transmit error signalled on each path of `cut` that has a frame in transmission: the
frame is cut off (R36, R42, R55). -/
def State.cutErrors (s : State) (cut : PerPath Bool) : Outputs :=
  { s.out with
    txError :=
      ⟨s.out.txError.a || (cut.a && s.link.paths.a.sending.isSome),
       s.out.txError.b || (cut.b && s.link.paths.b.sending.isSome)⟩ }

/-- The Link Controller when the mode leaves RUN (R36). -/
def Link.leaveRun (l : Link) : Link where
  paths := ⟨l.paths.a.cut, l.paths.b.cut⟩
  queryPending := false
  statusPending := false

/-- TRIP and the test trip are deasserted when the mode leaves RUN or TEST (R143, R161). -/
def Trip.release (t : Trip) : Trip := { t with output := false, testTrip := false }

/-- What the blocks do at the moment the mode leaves RUN or TEST (R4, R33, R36, R143, R160, R161). -/
def State.leaveMode (s : State) : State :=
  if s.ctl.mode = .run ∨ s.ctl.mode = .test then
    { s with
      bay := s.bay.abandon
      clock := { s.clock with drift := .idle, stepDue := none }
      link := if s.ctl.mode = .run then s.link.leaveRun else s.link
      out := if s.ctl.mode = .run then s.cutErrors (.const true) else s.out
      trip := s.trip.release
      ctl := { s.ctl with tripReported := false } }
  else s

/-! ## HALTED (R172, R180) -/

/-- Enter HALTED with a code, and for DOUBLE FAULT the second fault; a request in HALTED is ignored
(R172, R180). The sample index is the clock's, also between a step and the next instant (assumption log 38). -/
def State.halt (s : State) (code : HaltCode) (second : Option FaultReport) : State :=
  if s.ctl.mode = .halted then s else
  let t := s.leaveMode
  { t with
    sup := { t.sup with
      halt := some
        { code := code
          index := if s.clock.taken then some s.clock.index else none
          modeBefore := s.ctl.mode
          second := second } }
    ctl := { t.ctl with mode := .halted } }

/-! ## Blocking faults (R169, R170) -/

/-- The report of a parity error on the read-back of the fault record (R170). -/
def recordFault : FaultReport := { code := .storage, reporter := .supervision, detail := .faultRecord }

/-- A new fault record (R169). -/
def State.newRecord (s : State) (f : FaultReport) : FaultRecord where
  report := f
  index := s.clock.index
  mode := s.ctl.mode
  repeats := 0
  acknowledged := false

/-- Write a new record, read it back, and request FAULT, or HALTED when the read-back has a parity error
(R169, R170). -/
def State.writeFault (s : State) (f : FaultReport) : State :=
  let t := { s with sup := { s.sup with fault := some (s.newRecord f) } }
  if s.health.faultCellBad then t.halt .doubleFault (some recordFault)
  else { t with diff := t.diff.addFault }

/-- Take a blocking fault, in RUN and TEST (R163, R169, R170). -/
def State.takeFault (s : State) (f : FaultReport) : State :=
  if !s.working then s else
  match s.sup.fault with
  | none => s.writeFault f
  | some r =>
    if r.report = f then
      { s with sup := { s.sup with fault := some { r with repeats := satInc Config.count16 r.repeats } } }
    else if r.acknowledged then s.writeFault f
    else s.halt .doubleFault (some f)

/-! ## Entries to RUN, TEST and CONFIG (R177, R189, R191, R192) -/

/-- The Sample Clock Unit on entry to RUN or TEST: the first period starts from F = 0, and the first
instant is numbered 0 (R35). -/
def Clock.entry (c : Clock) (test : Bool) : Clock :=
  Clock.startPeriod
    { Clock.cold with
      tick := c.tick
      trim := c.trim
      lastDrift := c.lastDrift
      driftRejects := c.driftRejects
      index := Config.indexCount - 1
      sync := if test then .lockedSelf else .unlocked
      authority := if test then .self else .none }

/-- A path on entry to RUN (R55). -/
def PathCtl.entry (p : PathCtl) : PathCtl :=
  if p.state = .failed then { p.cut with health := 255 }
  else { p.cut with state := (if p.line then .up else .down), health := 0 }

/-- The Link Controller on entry to RUN (R44, R55). -/
def Link.entry (l : Link) : Link where
  paths := ⟨l.paths.a.entry, l.paths.b.entry⟩
  queryPending := true
  statusPending := false

/-- The own roster entry on entry to RUN or TEST (R56, R71). -/
def ownEntry (sig : BitVec 16) (d : BayDesc) : Entry :=
  { Entry.initial with state := .live, sig := some sig, desc := some d, liveAtClosure := true }

/-- The Peer Roster on entry to RUN or TEST (R71). -/
def Roster.entry (own : Option Station) (sig : BitVec 16) (d : BayDesc) : Roster :=
  { Roster.initial with
    entries := .ofFn fun n => if own = some n then ownEntry sig d else Entry.initial }

/-- The Zone Replica Unit on entry to RUN or TEST (R115). -/
def Replica.entry (own : Option Station) (d : BayDesc) : Replica :=
  { Replica.initial with
    known := .ofFn fun n => if own = some n then { Known.initial with desc := some d } else Known.initial }

/-- The Differential Unit on entry to RUN or TEST: FAULT is kept (R142). -/
def Diff.entry (d : Diff) : Diff := { Diff.initial with fault := d.fault }

/-- The Trip Unit on entry to RUN or TEST, and after a warm reset: the record is kept (R162). -/
def Trip.entry (t : Trip) : Trip := { Trip.cold with record := t.record }

/-- The values every block takes on entry to RUN or TEST (R177). -/
def State.entryValues (s : State) (test : Bool) : State :=
  let sig := signatureOf s.blockBytes
  { s with
    bay := Bay.initial
    clock := s.clock.entry test
    link := if test then s.link else s.link.entry
    roster := Roster.entry s.own sig s.ownDesc
    asm := Assembler.initial
    replica := Replica.entry s.own s.ownDesc
    diff := s.diff.entry
    trip := s.trip.entry
    sup := { s.sup with recheck := 0 }
    ctl := { s.ctl with
      mode := if test then .test else .run
      step := none
      signature := some sig
      tripReported := false
      attempts := 0
      attemptTicks := 0
      loopPath := none
      loopFrame := none
      loopTicks := 0 } }

/-- Enter RUN (R189). -/
def State.enterRun (s : State) : State := s.leaveMode.entryValues false

/-- Enter TEST (R191). -/
def State.enterTest (s : State) : State := s.leaveMode.entryValues true

/-- Enter CONFIG: the blocks hold their state (R186, R192). -/
def State.enterConfig (s : State) : State :=
  let t := s.leaveMode
  { t with ctl := { t.ctl with mode := .config, step := none, loopPath := none, loopFrame := none } }

/-! ## Resets (R178, R179) -/

/-- Every block at its cold-reset values, with the straps as latched and a frame in transmission cut off (R55,
R178 and the reset tables). -/
def State.coldValues (s : State) : State :=
  { s with
    bay := Bay.initial
    clock := Clock.cold
    link := Link.initial s.pins.lup s.ctl.pben
    roster := Roster.initial
    asm := Assembler.initial
    replica := Replica.initial
    diff := Diff.initial
    trip := Trip.cold
    sup := Supervision.cold
    ctl := Ctl.cold s.ctl.strap s.ctl.pben
    svc := Service.initial
    out := s.cutErrors (.const true) }

/-- The Mode Controller after a warm reset: straps, store, block and signature are kept (R179, R193). -/
def Ctl.warm (c : Ctl) : Ctl :=
  { Ctl.cold c.strap c.pben with
    start := .warm
    store := c.store
    block := c.block
    signature := if c.store = .empty then none else c.signature }

/-- Every block at its warm-reset values, with a frame in transmission cut off (R55, R179 and the reset tables). -/
def State.warmValues (s : State) : State :=
  { s with
    bay := Bay.initial
    clock := { Clock.cold with tick := s.clock.tick, trim := s.clock.trim }
    link := Link.initial s.pins.lup s.ctl.pben
    roster := Roster.initial
    asm := Assembler.initial
    replica := Replica.initial
    diff := Diff.initial
    trip := s.trip.entry
    sup := { Supervision.cold with fault := s.sup.fault, halt := s.sup.halt }
    ctl := s.ctl.warm
    svc := Service.initial
    out := s.cutErrors (.const true) }

end Sys2Proof.Machine
end

