-- ==== Sys2Proof/Machine/Roster.lean ====
section
/-! DEFINITION. The Peer Roster (04): taking frames, the peer state machine at a closure, CONFLICT, VIEW
and the per-peer counters, and CONFLICT_CLEAR and PEER_SILENT. -/

namespace Sys2Proof.Machine

/-! ## Readings of the roster -/

/-- The entry of a station. -/
def State.entry (s : State) (n : Station) : Entry := s.roster.entries.get n

/-- The station reads LIVE (R60). -/
def State.live (s : State) (n : Station) : Bool := (s.entry n).state == .live

/-- Replace the entry of a station by a change of it. -/
def State.onEntry (s : State) (n : Station) (f : Entry → Entry) : State :=
  { s with roster := { s.roster with entries := s.roster.entries.modify n f } }

/-! ## Taking frames (R57, R58) -/

/-- The bay description a frame carries; a QUERY carries none (R57). -/
def Body.desc? : Body → Option BayDesc
  | .sample _ _ _ bay => some bay.desc
  | .query => none
  | .status _ d _ _ _ _ => some d

/-- The station becomes EXCLUDED (R58). -/
def Entry.exclude (e : Entry) : Entry := { e with state := .excluded, good := 0, missed := 0, viewRun := 0 }

/-- What any accepted frame sets in its sender's entry (R57, R58). -/
def Entry.hear (e : Entry) (ownSig : BitVec 16) (f : Frame) : Entry :=
  let e := { e with
    frameSeen := true
    sig := some f.sig
    desc := match f.body.desc? with
      | some d => some d
      | none => e.desc }
  if f.sig = ownSig then e else e.exclude

/-! ## QUERY and STATUS (R64 to R67) -/

/-- A QUERY that is the second copy of one already taken (R64). -/
def Entry.querySecond (e : Entry) (f : Frame) : Bool := e.querySeen && e.lastQuery == some f.index

/-- A STATUS that is the second copy of one already taken (R65). -/
def Entry.statusSecond (e : Entry) (f : Frame) : Bool :=
  e.statusSeen && (e.lastStatus.map StatusRec.index) == some f.index

/-- The bit of a station in a LIVE mask (03, 3.2.1). -/
def stationBit (n : Station) : BitVec 24 := 1#24 <<< n.val

/-- The LIVE mask: bit n-1 for each station whose entry is LIVE (R63). -/
def Roster.liveMask (r : Roster) : BitVec 24 :=
  BitVec.ofNat 24 (natOfBits (stations.map fun n => (r.entries.get n).state == .live))

/-- Two LIVE masks agree when all bits but the sender's and the own are equal (R66). -/
def masksAgree (sender : Station) (own : Option Station) (m1 m2 : BitVec 24) : Bool :=
  let ownBit := match own with
    | some n => stationBit n
    | none => 0#24
  (m1 ^^^ m2) &&& ~~~(stationBit sender ||| ownBit) == 0#24

/-- The view-mismatch run after a first copy: kept for LIVE peers (R67). -/
def Entry.viewStep (e : Entry) (agrees : Bool) : Entry :=
  if e.state = .live then { e with viewRun := if agrees then 0 else satInc 3 e.viewRun } else e

/-- Every LIVE peer's view-mismatch run is 0 (R68). -/
def State.viewQuiet (s : State) : Bool :=
  stations.all fun n => s.isOwn n || !s.live n || (s.entry n).viewRun == 0

/-- While VIEW is raised it is cleared when every LIVE peer's run is 0 (R68). -/
def State.viewClear (s : State) : State :=
  if s.roster.view && s.viewQuiet then { s with roster := { s.roster with view := false } } else s

/-- VIEW after a first copy of a STATUS of station `n` (R68). -/
def State.viewAfterStatus (s : State) (n : Station) : State :=
  if s.roster.view then s.viewClear
  else if s.live n && 3 ≤ (s.entry n).viewRun then { s with roster := { s.roster with view := true } }
  else s

/-- The roster takes an accepted frame of path `p` (R57, R58, R64, R65, R67, R68). -/
def State.rosterTake (s : State) (p : Path) (f : Frame) : State :=
  let n := f.sender
  let t := s.onEntry n fun e => e.hear s.ownSig f
  match f.body with
  | .sample _ _ _ _ => t
  | .query =>
    if (s.entry n).querySecond f then t
    else
      let u := t.onEntry n fun e => { e with lastQuery := some f.index, querySeen := true }
      { u with link := { u.link with statusPending := true } }
  | .status prot _ mask auth ha hb =>
    if (s.entry n).statusSecond f then t
    else
      let agrees := masksAgree n s.own mask t.roster.liveMask
      let record : StatusRec :=
        { index := f.index, sync := f.sync, prot := prot, liveMask := mask, authority := auth,
          healthA := ha, healthB := hb, path := p, tick := s.clock.tick, agrees := agrees }
      let u := t.onEntry n fun e =>
        Entry.viewStep { e with lastStatus := some record, statusSeen := true } agrees
      u.viewAfterStatus n

/-! ## CONFLICT (R61, R62) -/

/-- A frame carrying the own number was heard on an UP or DEGRADED path (R61). -/
def State.hearOwn (s : State) : State :=
  { s with
    roster := { s.roster with conflictHeard := true, conflictFree := 0, conflict := true }
    diff := if s.roster.conflict then s.diff else s.diff.addConflict }

/-- CONFLICT is cleared and its block reason withdrawn (R62). -/
def State.endConflict (s : State) : State :=
  { s with
    roster := { s.roster with conflict := false, conflictFree := 0 }
    diff := s.diff.dropConflict }

/-- CONFLICT at a closure in RUN (R62). -/
def State.conflictClosure (s : State) : State :=
  if !s.roster.conflict then s
  else if s.roster.conflictHeard then
    { s with roster := { s.roster with conflictHeard := false, conflictFree := 0 } }
  else
    let t := { s with roster := { s.roster with conflictFree := s.roster.conflictFree + 1 } }
    if Config.sampleRate ≤ t.roster.conflictFree then t.endConflict else t

/-- CONFLICT_CLEAR (R62): the conflict-free run stands at 2,400 while CONFLICT is raised. -/
def execConflictClear (s : State) : Host.Outcome State Fault Refusal :=
  answer <|
    if s.inRun && s.roster.conflict && Config.sampleRate ≤ s.roster.conflictFree then s.endConflict else s

/-! ## The peer state machine (R59) -/

/-- The station becomes SILENT; leaving LIVE sets its view-mismatch run to 0 (R59). -/
def Entry.silence (e : Entry) : Entry := { e with state := .silent, viewRun := 0 }

/-- The state machine's row for a closure without a frame seen, in JOINING or LIVE (R59). -/
def Entry.miss (e : Entry) : Entry :=
  let e := { e with good := 0, missed := satInc 255 e.missed }
  if 24 ≤ e.missed then e.silence else e

/-- The state machine's row for an entry that becomes JOINING (R59). -/
def Entry.join (e : Entry) : Entry := { e with state := .joining, good := 1, missed := 0 }

/-- The state machine's row for a closure with a frame seen, in JOINING (R59). -/
def Entry.goOnJoining (e : Entry) : Entry :=
  let e := { e with good := satInc Config.count16 e.good, missed := 0 }
  if 48 ≤ e.good then { e with state := .live } else e

/-- The rows of the table of R59. -/
def Entry.advance (e : Entry) (ownSig : BitVec 16) : Entry :=
  let matched := e.sig == some ownSig
  match e.state with
  | .absent => if e.frameSeen && matched then e.join else { e with good := 0, missed := 0 }
  | .excluded => if e.frameSeen && matched then e.join else { e with good := 0, missed := 0 }
  | .silent => if e.frameSeen && matched then e.join else { e with missed := satInc 255 e.missed }
  | .joining => if e.frameSeen then e.goOnJoining else e.miss
  | .live =>
    if e.frameSeen then { e with good := satInc Config.count16 e.good, missed := 0 } else e.miss

/-- A peer entry at a closure: the table, then the flags are cleared (R59, R64, R65). That the entry was
EXCLUDED is kept for the replica, whose step 2 sees it (R99). -/
def Entry.closure (e : Entry) (ownSig : BitVec 16) : Entry :=
  let a := e.advance ownSig
  { a with
    frameSeen := false, querySeen := false, statusSeen := false
    liveAtClosure := a.state == .live
    excludedBefore := e.state == .excluded }

/-- The roster's work at a closure: peer entries, and in RUN CONFLICT and VIEW (R59, R62, R68, R70). -/
def State.rosterClosure (s : State) : State :=
  let t := { s with
    roster := { s.roster with
      entries := .ofFn fun n => if s.isOwn n then s.entry n else (s.entry n).closure s.ownSig } }
  if t.ctl.mode = .run then t.conflictClosure.viewClear else t

/-- PEER_SILENT (R59): a JOINING or LIVE peer whose missed run stands at 24 becomes SILENT. -/
def execPeerSilent (n : Station) (s : State) : Host.Outcome State Fault Refusal :=
  answer <|
    let e := s.entry n
    if s.inRun && !s.isOwn n && (e.state == .joining || e.state == .live) && 24 ≤ e.missed then
      s.onEntry n fun e => { e.silence with liveAtClosure := false }
    else s

/-! ## Per-peer counters (R69) -/

/-- A LATE event of a station. -/
def State.countLate (s : State) (n : Station) : State :=
  s.onEntry n fun e => { e with late := satInc Config.count16 e.late }

/-- An EARLY event of a station. -/
def State.countEarly (s : State) (n : Station) : State :=
  s.onEntry n fun e => { e with early := satInc Config.count16 e.early }

/-- A DUP event of a station. -/
def State.countDup (s : State) (n : Station) : State :=
  s.onEntry n fun e => { e with dup := satInc Config.count16 e.dup }

end Sys2Proof.Machine
end

