-- ==== Sys2Proof/Machine/Clock.lean ====
section
/-! DEFINITION. The Sample Clock Unit (02): ticks of own instants, second marks and drift, tracking of PPS
and of the index authority, the closure work, the acquisition step, and PPS_EDGE, ACQUISITION_STEP,
HOLDOVER_LIMIT and SYNC_LOSS. -/

namespace Sys2Proof.Machine

/-! ## Ticks of own instants (R18) -/

/-- The latest instant, or the base of the latest step while no instant followed it (R18). -/
def Clock.anchor (c : Clock) : Option Stamp :=
  match c.instants with
  | st :: _ => some st
  | [] => c.stepBase

/-- The tick of own instant `k`: recorded, or extrapolated and rounded with halves up; none when no
instant and no step has been taken (R18). -/
def Clock.ownTick (c : Clock) (k : Nat) : Option Tick :=
  match c.instants.find? fun st => st.index == k with
  | some st => some st.tick
  | none => c.anchor.map fun st => tickAdd st.tick ((indexDistance st.index k * c.period + 128) / 256)

/-! ## Second marks and the drift measurement (R22, R33) -/

/-- C × 8 / (M × 75) rounded to the nearest integer with halves up (R33). -/
def driftQuotient (count m : Nat) : Nat := (2 * (count * 8) + m * 75) / (2 * (m * 75))

/-- C lies within M × 24,000,000 ± M × 4,800 (R33). -/
def driftAccepted (count m : Nat) : Bool :=
  m * Config.ppsInterval ≤ count + m * 4800 && count ≤ m * Config.ppsInterval + m * 4800

/-- Publish C and evaluate it (R33). -/
def Clock.publish (c : Clock) (count m : Nat) : Clock :=
  if driftAccepted count m then
    { c with lastDrift := some count, trim := clampTo 512 ((driftQuotient count m : Int) - Config.nominalPeriod) }
  else { c with lastDrift := some count, driftRejects := satInc Config.count16 c.driftRejects }

/-- The drift measurement takes a second mark at tick `t` (R33). -/
def Clock.driftMark (c : Clock) (m : Nat) (t : Tick) : Clock :=
  if !c.sync.drifts then c else
  match c.drift with
  | .idle => { c with drift := .counting t 0 }
  | .counting start n =>
    if m ≤ n + 1 then { c.publish (t - start).toNat m with drift := .counting t 0 }
    else { c with drift := .counting start (n + 1) }

/-- A mark whose index is not the last mark's plus 2,400 reveals a gap (R22). -/
def Clock.markGap (c : Clock) (index : Option Nat) : Bool :=
  match c.lastMark, index with
  | some ⟨_, some last⟩, some k => k != (last + Config.sampleRate) % Config.indexCount
  | _, _ => false

/-- A second mark at the present tick, with its index in PEER mode (R22, R33). -/
def Clock.secondMark (c : Clock) (m : Nat) (index : Option Nat) : Clock :=
  let c := if c.markGap index then { c with drift := .idle } else c
  { c.driftMark m c.tick with lastMark := some ⟨c.tick, index⟩, sinceMark := 0 }

/-- No second mark has come in time: the measurement is discarded (R22, R33). -/
def Clock.missMark (c : Clock) : Clock := { c with drift := .idle, lastMark := none, sinceMark := 0 }

/-! ## Tracking of PPS (R20, R24, R28, R29) -/

/-- The nearer of two errors in ticks, the first when they are equally near (R28). -/
def nearer (e0 e1 : Int) : Int := if e0.natAbs ≤ e1.natAbs then e0 else e1

/-- The error of a qualified edge at the present tick against the nearest multiple of 2,400 (R28). -/
def Clock.ppsError (c : Clock) : Option Int :=
  match c.anchor with
  | none => none
  | some st =>
    let before := st.index / Config.sampleRate * Config.sampleRate
    let after := (before + Config.sampleRate) % Config.indexCount
    match c.ownTick before, c.ownTick after with
    | some t0, some t1 => some (nearer (tickDiff c.tick t0) (tickDiff c.tick t1))
    | _, _ => none

/-- The slew of an edge's error: within 480 ticks, clamped to 240 (R28). -/
def Clock.ppsSlew (c : Clock) (e : Int) : Clock :=
  if e.natAbs ≤ 480 ∧ clampTo 240 e ≠ 0 then c.setSlew (clampTo 240 e) else c

/-- An edge measured in ACQUIRING after the step (R24, R28). The excursion run stays as it is, also beyond 480 ticks
(assumption log 46). -/
def Clock.ppsAcquire (c : Clock) (e : Int) : Clock :=
  let c := c.ppsSlew e
  if e.natAbs ≤ 24 then
    let c := { c with lockProgress := c.lockProgress + 1 }
    if 3 ≤ c.lockProgress then c.enter .lockedPps else c
  else { c with lockProgress := 0 }

/-- The excursion rule: at `limit` consecutive events beyond 480 ticks the state becomes ACQUIRING (R29). -/
def Clock.excursionRule (c : Clock) (limit : Nat) (e : Int) : Clock :=
  if 480 < e.natAbs then
    let c := { c with excursion := c.excursion + 1 }
    if limit ≤ c.excursion then c.enter .acquiring else c
  else { c with excursion := 0 }

/-- The base of the step to PPS: the second number follows the authority's latest used frame when it came
within 12,000,000 ticks, also one from before the entry to ACQUIRING, else the own second is kept (R24). -/
def Clock.ppsBase (c : Clock) : Stamp :=
  let ownSecond := c.index / Config.sampleRate * Config.sampleRate
  let index :=
    match c.authority, c.lastUsed with
    | .peer _, some u =>
      if (c.tick - u.tick).toNat ≤ 12000000
      then (u.index / Config.sampleRate + 1) * Config.sampleRate % Config.indexCount else ownSecond
    | _, _ => ownSecond
  ⟨index, c.tick⟩

/-- What a qualified edge does in the state in which it is taken (R23, R24, R28, R29, R32). -/
def Clock.qualifiedEdge (c : Clock) : Clock :=
  match c.sync with
  | .unlocked => c.enter .acquiring
  | .holdover => c.enter .acquiring
  | .acquiring =>
    if c.stepPending then { c with stepDue := some c.ppsBase }
    else match c.ppsError with
      | some e => c.ppsAcquire e
      | none => c
  | .lockedPps =>
    match c.ppsError with
    | some e => (c.ppsSlew e).excursionRule 2 e
    | none => c
  | .lockedPeer => c
  | .lockedSelf => c

/-- PPS is disqualified: the valid-interval run is 0 and the sync state machine is told at once (R20, R24,
R29); in PPS mode this is also a missing mark (R22). -/
def Clock.disqualify (c : Clock) : Clock :=
  let c := { c.missMark with qualified := false, validRun := 0 }
  match c.sync with
  | .lockedPps => c.enter .holdover
  | .acquiring => c.enter .unlocked
  | .unlocked => c
  | .holdover => c
  | .lockedPeer => c
  | .lockedSelf => c

/-- An interval in ticks is valid (R20). -/
def intervalValid (i : Nat) : Bool :=
  Config.ppsInterval - Config.ppsTolerance ≤ i && i ≤ Config.ppsInterval + Config.ppsTolerance

/-- The PPS record takes an edge at the present tick: the edge starts a new interval, and the one it ends
is judged (R20). -/
def Clock.countEdge (c : Clock) : Clock :=
  let d := { c with lastEdge := some c.tick, sinceEdge := 0 }
  match c.lastEdge with
  | none => d
  | some t =>
    if intervalValid (c.tick - t).toNat then
      let run := satInc 3 c.validRun
      { d with validRun := run, qualified := c.qualified || run == 3 }
    else if c.qualified then d.disqualify
    else { d with validRun := 0 }

/-- A PPS edge at the present tick: the record of R20, then the sync state machine, then the second mark (R20,
R22, R24, R28, R33). The edge that enters ACQUIRING is thus a mark that starts the drift measurement
(assumption log 37). -/
def Clock.edge (c : Clock) (m : Nat) : Clock :=
  let c := c.countEdge
  if c.qualified then c.qualifiedEdge.secondMark m none else c

/-- PPS_EDGE (R20): taken in RUN with sync mode PPS, ignored otherwise. A step that is due is taken
first. -/
def State.ppsEdge (s : State) : State :=
  if s.inRun && s.syncPps then { s with clock := s.clock.edge s.marksM } else s

/-- 24,002,400 ticks have passed after an edge: PPS is disqualified, and the next edge only starts an interval
(R20). -/
def Clock.ppsSilent (c : Clock) : Clock := { c.disqualify with lastEdge := none, sinceEdge := 0 }

/-! ## Tracking of the index authority (R21, R25, R27, R29) -/

/-- A frame's error enters the slew batch; the 24th gives the mean's slew (R27). -/
def Clock.batch (c : Clock) (e : Int) : Clock :=
  if 480 < e.natAbs then c else
  let c := { c with batchSum := c.batchSum + e, batchCount := c.batchCount + 1 }
  if 24 ≤ c.batchCount then
    let mean := clampTo 24 (c.batchSum.tdiv 24)
    (if mean = 0 then c else c.setSlew mean).clearBatch
  else c

/-- A used authority frame measured in ACQUIRING after the step (R25, R27). The excursion run stays as it is, also
beyond 480 ticks (assumption log 46). -/
def Clock.peerAcquire (c : Clock) (e : Int) : Clock :=
  let c := c.batch e
  if e.natAbs ≤ 48 then
    let c := { c with lockProgress := c.lockProgress + 1 }
    if 24 ≤ c.lockProgress then c.enter .lockedPeer else c
  else { c with lockProgress := 0 }

/-- The error of an authority frame with index `k` arriving at the present tick (R27). -/
def Clock.peerError (c : Clock) (k tlink : Nat) : Option Int :=
  (c.ownTick k).map fun t => tickDiff c.tick (tickAdd t tlink)

/-- A used authority frame with index `k` in PEER mode (R25, R27, R29). -/
def Clock.trackPeer (c : Clock) (k tlink : Nat) : Clock :=
  match c.sync with
  | .acquiring =>
    if c.stepPending then { c with stepDue := some ⟨k, tickAdd c.tick (-(tlink : Int))⟩ }
    else match c.peerError k tlink with
      | some e => c.peerAcquire e
      | none => c
  | .lockedPeer =>
    match c.peerError k tlink with
    | some e => (c.batch e).excursionRule 3 e
    | none => c
  | .unlocked => c
  | .lockedPps => c
  | .lockedSelf => c
  | .holdover => c

/-- A frame is a SAMPLE frame. -/
def Body.isSample : Body → Bool
  | .sample _ _ _ _ => true
  | .query => false
  | .status _ _ _ _ _ _ => false

/-- The frame is used: an authority SAMPLE frame newer than the last authority index (R21). -/
def Clock.uses (c : Clock) (f : Frame) : Bool :=
  f.body.isSample && c.authority == .peer f.sender &&
    (match c.lastAuth with
      | none => true
      | some k => newer f.index k)

/-- A used frame: the last authority index, and in PEER mode the tracking and the mark (R21, R22, R27). Where the
tracking enters ACQUIRING, R23 leaves no last authority index, and a second copy of the frame is used (assumption
log 40). -/
def Clock.use (c : Clock) (f : Frame) (pps : Bool) (tlink m : Nat) : Clock :=
  let c := { c with lastAuth := some f.index, lastUsed := some ⟨f.index, c.tick⟩ }
  if pps then c
  else
    let c := c.trackPeer f.index tlink
    if f.index % Config.sampleRate = 0 then c.secondMark m (some f.index) else c

/-- The Sample Clock Unit takes an accepted frame, in RUN (R21). -/
def State.clockTake (s : State) (f : Frame) : State :=
  if s.ctl.mode = .run then
    let c := { s.clock with codes := s.clock.codes.set f.sender f.sync }
    { s with clock := if c.uses f then c.use f s.syncPps s.tlink s.marksM else c }
  else s

/-! ## The closure work (R21, R23, R25, R30, R31, R32) -/

/-- The code makes a peer a candidate for index authority (R21). -/
def authorityCode (pps : Bool) : SyncState → Bool
  | .lockedPps => pps
  | .lockedPeer => !pps
  | .lockedSelf => !pps
  | .unlocked => false
  | .acquiring => false
  | .holdover => false

/-- The lowest-numbered LIVE peer with a locked code and a number below the own (R21). -/
def State.authorityPeer (s : State) : Option Station :=
  stations.find? fun n =>
    s.live n && !s.isOwn n && authorityCode s.syncPps (s.clock.codes.get n) && n.num < s.ctl.strap

/-- The index authority named at a closure (R21). -/
def State.nameAuthority (s : State) : Authority :=
  match s.authorityPeer with
  | some n => .peer n
  | none => if s.clock.sync = .unlocked then .none else .self

/-- What a change of authority sets (R21, R25, R30, R33). -/
def Clock.changeAuthority (c : Clock) (a : Authority) (pps : Bool) : Clock :=
  let c := { c with authority := a, lastAuth := none, lastUsed := none, misfit := 0 }
  if pps then c
  else
    let c := { c with drift := .idle }
    if c.sync = .acquiring then { c.clearBatch with stepPending := true, stepDue := none, lockProgress := 0 } else c

/-- The authority is a peer. -/
def Authority.isPeer : Authority → Bool
  | .peer _ => true
  | .self => false
  | .none => false

/-- The misfit run from the reports of the Set Assembler (R30). -/
def Clock.misfitRule (c : Clock) (fit misfit : Bool) : Clock :=
  if c.sync = .lockedPeer ∨ (c.sync = .lockedPps ∧ c.authority.isPeer = true) then
    if fit then { c with misfit := 0 }
    else if misfit then
      let c := { c with misfit := c.misfit + 1 }
      if 24 ≤ c.misfit then c.enter .acquiring else c
    else c
  else c

/-- No LIVE or JOINING peer has a lower number than the own (R25). -/
def State.lowestHeard (s : State) : Bool :=
  stations.all fun n =>
    s.isOwn n || s.ctl.strap ≤ n.num || !((s.entry n).state == .live || (s.entry n).state == .joining)

/-- The checks of R25, R31 and R32 in PEER mode, under the authority just named; `old` is the former
one. -/
def Clock.peerChecks (c : Clock) (old : Authority) (lowest : Bool) : Clock :=
  match c.sync with
  | .acquiring =>
    if Config.sampleRate ≤ c.acquiringElapsed ∧ c.authority = .self ∧ lowest = true then c.enter .lockedSelf else c
  | .lockedPeer =>
    if !c.authority.isPeer then c.enter .holdover
    else if c.authority = old then c
    else { c.clearBatch with excursion := 0, misfit := 0 }
  | .lockedSelf => if c.authority.isPeer then c.enter .acquiring else c
  | .holdover => if c.authority.isPeer then c.enter .acquiring else c
  | .unlocked => c
  | .lockedPps => c

/-- The Sample Clock Unit's work at a closure in RUN, in the order of R21. -/
def State.clockClosure (s : State) (fit misfit : Bool) : State :=
  if s.ctl.mode = .run then
    let c := if !s.syncPps && s.clock.sync == .unlocked then s.clock.enter .acquiring else s.clock
    let s := { s with clock := c }
    let old := c.authority
    let new := s.nameAuthority
    let c := if new = old then c else c.changeAuthority new s.syncPps
    let c := c.misfitRule fit misfit
    { s with clock := if s.syncPps then c else c.peerChecks old s.lowestHeard }
  else s

/-! ## The instant (R18, R19, R25, R32, R34) -/

/-- The pending slew after the instant that ends a period which carried a step of it (R19). -/
def Clock.spendSlew (c : Clock) : Clock :=
  if c.slewLive then { c with slew := if c.slew > 0 then c.slew - 1 else if c.slew < 0 then c.slew + 1 else 0 } else c

/-- HOLDOVER ends at its limit (R32). -/
def Clock.limitHoldover (c : Clock) (limit : Nat) : Clock :=
  if c.sync = .holdover ∧ limit ≤ c.holdoverElapsed then c.enter .unlocked else c

/-- SYNC LOSS is raised when the unlocked run passes 2,400 (R34). -/
def Clock.raiseLoss (c : Clock) : Clock :=
  if !c.sync.acceptable && Config.sampleRate < c.unlockedRun then { c with syncLoss := true } else c

/-- The counts of instants that the sync state keeps in RUN (R25, R32, R34). -/
def Clock.countInstant (c : Clock) (limit : Nat) : Clock :=
  match c.sync with
  | .unlocked => Clock.raiseLoss { c with unlockedRun := satInc 2401 c.unlockedRun }
  | .acquiring =>
    Clock.raiseLoss
      { c with unlockedRun := satInc 2401 c.unlockedRun, acquiringElapsed := satInc Config.sampleRate c.acquiringElapsed }
  | .holdover => Clock.limitHoldover { c with holdoverElapsed := c.holdoverElapsed + 1 } limit
  | .lockedPps => c
  | .lockedPeer => c
  | .lockedSelf => c

/-- An own instant at the present tick: index, recorded tick, slew, counts, and the next period (R17, R18,
R19). -/
def Clock.instant (c : Clock) (run : Bool) (limit : Nat) : Clock :=
  let k := nextIndex c.index
  let c := { c.spendSlew with
    index := k, taken := true, instants := ⟨k, c.tick⟩ :: c.instants.take 7, stepBase := none }
  Clock.startPeriod (if run then c.countInstant limit else c)

/-- HOLDOVER_LIMIT (R32): the holdover elapsed count stands at its limit. -/
def execHoldoverLimit (s : State) : Host.Outcome State Fault Refusal :=
  answer <| if s.inRun then { s with clock := s.clock.limitHoldover s.holdoverLimit } else s

/-- SYNC_LOSS (R34): the unlocked run has passed 2,400. -/
def execSyncLoss (s : State) : Host.Outcome State Fault Refusal :=
  answer <| if s.inRun then { s with clock := s.clock.raiseLoss } else s

/-! ## The acquisition step (R26, R92, R124) -/

/-- Periods from the base to the first own instant that lies after `elapsed` ticks (R25). -/
def stepPeriods (period elapsed : Nat) : Nat := max 1 (((elapsed + 1) * 256 + period - 1) / period)

/-- The clock takes a step to base `b` at the present tick (R24, R25, R26). Until the next instant the sample
index is the one before that instant's (assumption log 38). -/
def Clock.step (c : Clock) (b : Stamp) : Clock :=
  let c := { c.clearSlew.clearBatch with
    stepPending := false, stepDue := none, lockProgress := 0, instants := [], stepBase := some b }
  let p := Config.nominalPeriod + c.trim
  let elapsed := (tickDiff c.tick b.tick).toNat
  let j := stepPeriods p.toNat elapsed
  { c with
    period := p
    index := (b.index + j - 1) % Config.indexCount
    remaining := j * p.toNat / 256 - elapsed
    frac := j * p.toNat % 256 }

/-- The flush of the Set Assembler; the substitution marks are kept (R92). -/
def Assembler.flush (a : Assembler) : Assembler := { Assembler.initial with marks := a.marks }

/-- A slot's window and counters cleared at a step (R124). -/
def Slot.clearWindow (t : Slot) : Slot :=
  { t.unoperate with ring := [], sumD := .const 0, sumS := .const 0, fill := 0, incomplete := 0 }

/-- The Differential Unit at a step: rings and counters cleared, LATCHED, the hold counters and the block
reasons kept (R124). -/
def Diff.clearWindows (d : Diff) : Diff :=
  { d with
    groups := .ofFn fun g => (d.groups.get g).clearWindow
    latches := .ofFn fun g => { d.latches.get g with evidence := 0 }
    check := d.check.clearWindow }

/-- Take the step that has fallen due, in ACQUIRING alone; without one nothing happens (R26). -/
def State.takeStep (s : State) : State :=
  match s.clock.stepDue with
  | none => s
  | some b =>
    if s.inRun && s.clock.sync == .acquiring then
      { s with clock := s.clock.step b, bay := s.bay.abandon, asm := s.asm.flush, diff := s.diff.clearWindows }
    else s

/-- PPS_EDGE (R20), after a step that is due. -/
def execPpsEdge (s : State) : Host.Outcome State Fault Refusal := answer s.takeStep.ppsEdge

/-- ACQUISITION_STEP (R26). -/
def execAcquisitionStep (s : State) : Host.Outcome State Fault Refusal := answer s.takeStep

end Sys2Proof.Machine
end

