-- ==== Sys2Proof/Machine/Link.lean ====
section
/-! DEFINITION. The Link Controller (03): frames on the wire, the slots of the paths, the health counts and
path states, and TRANSMIT_END, LINK_UP_FALL and LINK_UP_RISE. -/

namespace Sys2Proof.Machine

/-! ## Frames on the wire (R37, R38) -/

/-- The source address: the group address with the group bit cleared, the locally administered bit set
and the last byte replaced by the station number (R37). -/
def sourceAddress (group : List Byte) (num : Nat) : List Byte :=
  match group with
  | [] => []
  | b :: rest => ((b &&& 0xFE#8) ||| 0x02#8) :: (rest.dropLast ++ [toByte num])

/-- Destination, source and type, the type most significant byte first (R37). -/
def headerOf (group : List Byte) (num linkType : Nat) : List Byte :=
  group ++ sourceAddress group num ++ [toByte (linkType / 256), toByte linkType]

/-- A payload filled with zero bytes up to 46 (R37). -/
def padPayload (p : List Byte) : List Byte := p ++ List.replicate (46 - p.length) 0#8

/-- A whole frame: header, padded payload and FCS (R37, R38). -/
def wireFrame (header payload : List Byte) : List Byte :=
  let body := header ++ padPayload payload
  body ++ fcsOf body

/-- The header of the station's frames (R37). -/
def State.header (s : State) : List Byte := headerOf s.groupAddress s.ctl.strap s.linkType

/-! ## Building frames (R39 to R41) -/

/-- The SAMPLE flags byte (03, 3.2.1). -/
def sampleFlags (r : OwnRecord) (bf : Option ZoneSet) : Byte :=
  toByte (natOfBits [r.valid, r.clamp.l1, r.clamp.l2, r.clamp.l3, bf.isSome])

/-- The SAMPLE payload for an own-bay record (R39). -/
def State.samplePayload (s : State) (r : OwnRecord) : List Byte :=
  let d := s.ownDesc
  [toByte 1, toByte s.ctl.strap] ++ le16 r.index ++ [toByte s.clock.sync.code, sampleFlags r s.trip.bfRequest]
    ++ le16 s.ownSig.toNat
    ++ [toByte d.kind.code, toByte (zoneNum d.zx), toByte r.states.x.code, toByte (zoneNum d.zy),
        toByte r.states.y.code, toByte r.states.breaker.code,
        toByte ((s.trip.bfRequest.map ZoneSet.mask).getD 0), toByte s.trip.state.code]
    ++ le16 (unsigned16 r.cur.l1) ++ le16 (unsigned16 r.cur.l2) ++ le16 (unsigned16 r.cur.l3)

/-- The QUERY payload (R40). -/
def State.queryPayload (s : State) : List Byte :=
  [toByte 2, toByte s.ctl.strap] ++ le16 s.clock.index ++ [toByte s.clock.sync.code, 0#8] ++ le16 s.ownSig.toNat

/-- The number by which STATUS names the index authority (R21, R41). -/
def State.authorityNum (s : State) : Nat :=
  match s.clock.authority with
  | .none => 0
  | .self => s.ctl.strap
  | .peer n => n.num

/-- The protection state (R41). -/
def State.protState (s : State) : ProtState :=
  if s.diff.fault then .faulted else if s.protReadyOut then .active else .blocked

/-- The STATUS payload (R41). -/
def State.statusPayload (s : State) : List Byte :=
  let d := s.ownDesc
  let mask := s.roster.liveMask.toNat
  [toByte 3, toByte s.ctl.strap] ++ le16 s.clock.index ++ [toByte s.clock.sync.code, toByte s.protState.code]
    ++ le16 s.ownSig.toNat
    ++ [toByte d.kind.code, toByte (zoneNum d.zx), toByte (zoneNum d.zy),
        toByte mask, toByte (mask / 256), toByte (mask / 65536), toByte s.authorityNum,
        toByte s.link.paths.a.health, toByte s.link.paths.b.health, 0#8]

/-! ## Slots and transmission (R42, R43) -/

/-- A path that sends nothing begins the frame in its SAMPLE slot, else the one in its non-sample slot
(R42). -/
def PathCtl.begin (p : PathCtl) : PathCtl :=
  match p.sending, p.sampleSlot, p.otherSlot with
  | some _, _, _ => p
  | none, some f, _ => { p with sampleSlot := none, sending := some (.sample, f) }
  | none, none, some f => { p with otherSlot := none, sending := some (.other, f) }
  | none, none, none => p

/-- Place a SAMPLE frame: a path that is not DOWN takes it, replacing one that still waits (R42). -/
def PathCtl.placeSample (f : List Byte) (p : PathCtl) : PathCtl :=
  if p.state = .down then p else { p with sampleSlot := some f }

/-- Place a QUERY or STATUS frame in the same way (R43). -/
def PathCtl.placeOther (f : List Byte) (p : PathCtl) : PathCtl :=
  if p.state = .down then p else { p with otherSlot := some f }

/-- Apply a change to both paths. -/
def Link.both (l : Link) (f : PathCtl → PathCtl) : Link := { l with paths := ⟨f l.paths.a, f l.paths.b⟩ }

/-- Apply a change to one path. -/
def Link.onPath (l : Link) (q : Path) (f : PathCtl → PathCtl) : Link :=
  { l with paths := l.paths.set q (f (l.paths.get q)) }

/-- After the period's SAMPLE frame: one pending request is served, QUERY before STATUS (R43). -/
def State.serveRequest (s : State) : State :=
  if s.link.queryPending then
    { s with link := { s.link.both (PathCtl.placeOther (wireFrame s.header s.queryPayload)) with queryPending := false } }
  else if s.link.statusPending then
    { s with link := { s.link.both (PathCtl.placeOther (wireFrame s.header s.statusPayload)) with statusPending := false } }
  else s

/-- The Link Controller takes the own-bay record: in RUN it builds and places the SAMPLE frame, then
serves a pending request, and each idle path begins to send (R39, R42, R43). -/
def State.sendRecord (s : State) (r : OwnRecord) : State :=
  if s.ctl.mode = .run then
    let t := { s with link := s.link.both (PathCtl.placeSample (wireFrame s.header (s.samplePayload r))) }
    let t := t.serveRequest
    { t with link := t.link.both PathCtl.begin }
  else s

/-! ## Health and path states (R50, R52) -/

/-- The path state of a count for a path that is not DOWN (R52). -/
def PathCtl.evaluate (p : PathCtl) : PathCtl :=
  { p with
    state :=
      match p.state with
      | .down => .down
      | .failed => if p.health = 0 then .up else .failed
      | .up => if 255 ≤ p.health then .failed else if 96 ≤ p.health then .degraded else .up
      | .degraded => if 255 ≤ p.health then .failed else if 96 ≤ p.health then .degraded else .up }

/-- Add `n` to the health count, saturating at 255; a DOWN path is not changed (R50). -/
def PathCtl.charge (n : Nat) (p : PathCtl) : PathCtl :=
  if p.state = .down then p else PathCtl.evaluate { p with health := min 255 (p.health + n) }

/-- A frame is accepted: subtract 1, stopping at 0 (R49, R50). -/
def PathCtl.credit (p : PathCtl) : PathCtl :=
  if p.state = .down then p else PathCtl.evaluate { p with health := p.health - 1 }

/-- The path becomes DOWN: slots emptied, transmission cut off, count held (R42, R52). -/
def PathCtl.goDown (p : PathCtl) : PathCtl := { p.cut with state := .down, line := false }

/-- The link-up line rises: the count is 128 and the path DEGRADED (R52). -/
def PathCtl.comeUp (p : PathCtl) : PathCtl := { p with state := .degraded, health := 128, line := true }

/-- A change of a link-up line is taken: no reset holds the station, it is not HALTED, and the path is
enabled (R36, R53). -/
def State.followsLine (s : State) (p : Path) : Bool := !s.resetHeld && s.ctl.mode != .halted && s.enabled p

/-- The line level of a path's pin becomes `v`. -/
def State.setLup (s : State) (p : Path) (v : Bool) : State :=
  { s with pins := { s.pins with lup := s.pins.lup.set p v } }

/-- LINK_UP_FALL (R42, R52): from a high level, the path becomes DOWN, and a frame in transmission on it is cut
off with a transmit error. -/
def execLinkUpFall (p : Path) (s : State) : Host.Outcome State Fault Refusal :=
  answer <|
    if s.pins.lup.get p then
      let t := s.setLup p false
      if s.followsLine p then
        { t with link := t.link.onPath p PathCtl.goDown, out := t.cutErrors ((PerPath.const false).set p true) }
      else t
    else s

/-- LINK_UP_RISE (R44, R52): from a low level, the path becomes DEGRADED with count 128, and in RUN QUERY
is set pending. -/
def execLinkUpRise (p : Path) (s : State) : Host.Outcome State Fault Refusal :=
  answer <|
    if s.pins.lup.get p then s else
      let t := s.setLup p true
      if s.followsLine p then
        let l := t.link.onPath p PathCtl.comeUp
        { t with link := { l with queryPending := l.queryPending || s.ctl.mode == .run } }
      else t

/-- TRANSMIT_END (R42): the frame in transmission leaves, and the next waiting frame is sent. -/
def execTransmitEnd (p : Path) (s : State) : Host.Outcome State Fault Refusal :=
  answer <|
    if s.inRun then
      { s with link := s.link.onPath p fun q => if q.sending.isSome then PathCtl.begin { q with sending := none } else q }
    else s

end Sys2Proof.Machine
end

