-- ==== Sys2Proof/Machine/Supervision.lean ====
section
/-! DEFINITION. The Supervision Unit (09): the datapath check, the configuration recheck, reports of parity
errors, the acknowledgement, and CONFIG_RECHECK. -/

namespace Sys2Proof.Machine

/-! ## The datapath check (R164, R165, R183) -/

/-- The synthetic values of members 0 to 3 (09, 9.2). -/
def syntheticValues : List Int := [945, -4807, 12001, -8139]

/-- Value of a member under a mask: bit i of the mask inverts member i (R164). -/
def syntheticTerm (mask i : Nat) (v : Int) : Int := if bitOf mask i then -v else v

/-- The four members' signed values under a mask (R164). -/
def syntheticTerms (mask : Nat) : List Int := syntheticValues.zipIdx.map fun p => syntheticTerm mask p.2 p.1

/-- The independent checker's sums for a mask (R164). -/
def checkerSums (mask : Nat) : TermSums :=
  let sigma := (syntheticTerms mask).sum
  { sigma := sigma, d := sigma.natAbs, s := ((syntheticTerms mask).map fun v => (v.natAbs : Int)).sum }

/-- The datapath's sums for a mask and phase: right unless the hardware is upset there (R164; assumption
log 10). -/
def Health.sums (h : Health) (mask : Nat) (p : Phase) : TermSums :=
  match h.upsets.find? fun u => u.mask == mask && u.phase == p with
  | some u => u.sums
  | none => checkerSums mask

/-- The check of a mask passes in a phase (R164). -/
def Health.passes (h : Health) (mask : Nat) (p : Phase) : Bool := h.sums mask p == checkerSums mask

/-- The lowest-numbered phase in which a mask fails (R165). -/
def Health.failing (h : Health) (mask : Nat) : Option Phase := [Phase.l1, .l2, .l3].find? fun p => !h.passes mask p

/-- The fault of a failed datapath check (R165). -/
def Health.datapathFault (h : Health) (mask : Nat) (p : Phase) : FaultReport where
  code := .datapath
  reporter := .supervision
  detail := .datapath mask p (checkerSums mask).sigma (checkerSums mask).s (h.sums mask p)

/-- All 48 comparisons of self-test step 6 agree (R183). -/
def Health.selftestPasses (h : Health) : Bool := (List.range 16).all fun m => (h.failing m).isNone

/-- The datapath check at the closure of set `k`: run when `k` is 600 modulo 2,400; the mask advances, and
a failure is taken as a DATAPATH fault (R164, R165). -/
def State.datapathCheck (s : State) (k : Nat) : State :=
  if s.working && k % Config.sampleRate == 600 then
    let mask := s.sup.invertMask
    let t := { s with sup := { s.sup with invertMask := (mask + 1) % 16 } }
    match s.health.failing mask with
    | none => t
    | some p => t.takeFault (s.health.datapathFault mask p)
  else s

/-! ## Parity reports (R91, R125, R166) -/

/-- The report of a parity error on a slot (R91, R166). -/
def slotFault (setIndex : Nat) (n : Station) (history : Bool) : FaultReport :=
  { code := .storage, reporter := .assembler, detail := .slot setIndex n history }

/-- The report of a parity error on a ring entry (R125, R166). -/
def ringFault (name : SlotName) (setIndex : Nat) : FaultReport :=
  { code := .storage, reporter := .differential, detail := .ring name setIndex }

/-- Take the reports of a unit's reads in order (R166, R170). -/
def State.takeFaults (s : State) (fs : List FaultReport) : State := fs.foldl State.takeFault s

/-- The history's set of an index (R90). -/
def State.histSet (s : State) (k : Nat) : Option ClosedSet := s.asm.history.find? fun c => c.index == k

/-- Reports of reading a station's slot in a closed set: one when its parity is bad (R91). -/
def ClosedSet.readReport (c : ClosedSet) (n : Station) : List FaultReport :=
  if (c.slots.get n).parityBad then [slotFault c.index n true] else []

/-- A closed slot as it is delivered to a reader: MISSING without contribution on a parity error (R91). -/
def ClosedSlot.deliver (c : ClosedSlot) : ClosedSlot :=
  if c.parityBad then { c with status := some .missing, contr := none } else c

/-- A station's slot of a closed set as delivered (R91). -/
def ClosedSet.read (c : ClosedSet) (n : Station) : ClosedSlot := (c.slots.get n).deliver

/-! ## The configuration recheck (R167) -/

/-- The block CRC is recomputed and a mismatch requests HALTED (R167). -/
def State.recheckBlock (s : State) : State :=
  let t := { s with sup := { s.sup with recheck := 0 } }
  if blockCrcGood s.blockBytes then t else t.halt .configCorrupt none

/-- The recheck count at a closure (R167). -/
def State.recheckClosure (s : State) : State :=
  if !s.working then s
  else if Config.sampleRate ≤ s.sup.recheck + 1 then s.recheckBlock
  else { s with sup := { s.sup with recheck := s.sup.recheck + 1 } }

/-- CONFIG_RECHECK (R167): the recheck count stands at 2,400. -/
def execConfigRecheck (s : State) : Host.Outcome State Fault Refusal :=
  answer <| if s.working && Config.sampleRate ≤ s.sup.recheck then s.recheckBlock else s

/-! ## Acknowledgement (R171) -/

/-- An unacknowledged fault record is marked acknowledged (R171). -/
def State.acknowledge (s : State) : State :=
  { s with sup := { s.sup with fault := s.sup.fault.map fun r => { r with acknowledged := true } } }

end Sys2Proof.Machine
end

