-- ==== Sys2Proof/Machine/Assembly.lean ====
section
/-! DEFINITION. The Set Assembler (05): opening and filling sets, completion, settling, substitution and
the reports of a closure. -/

namespace Sys2Proof.Machine

/-! ## Opening and filling (R73 to R79) -/

/-- An empty open slot. -/
def OpenSlot.fresh : OpenSlot := { body := .empty, parityBad := false }

/-- Open set `k` with every slot EMPTY (R73). -/
def State.openSet (s : State) (k : Nat) : State :=
  { s with asm := { s.asm with openSets := s.asm.openSets ++ [⟨k, .const OpenSlot.fresh⟩] } }

/-- The open set of an index. -/
def State.findOpen (s : State) (k : Nat) : Option OpenSet := s.asm.openSets.find? fun o => o.index == k

/-- Write a slot of open set `k`; a slot is written with good parity (R91). -/
def State.writeSlot (s : State) (k : Nat) (n : Station) (b : SlotBody) : State :=
  { s with asm := { s.asm with
      openSets := s.asm.openSets.map fun o =>
        if o.index = k then { o with slots := o.slots.set n ⟨b, false⟩ } else o } }

/-- An open slot is read with a parity error: it becomes DAMAGED and a STORAGE fault is reported (R91). -/
def State.damageSlot (s : State) (k : Nat) (n : Station) : State :=
  (s.writeSlot k n .damaged).takeFault (slotFault k n false)

/-- The contribution of the own-bay record (R74). -/
def State.ownContribution (s : State) (r : OwnRecord) : Contribution where
  cur := r.cur
  clamp := r.clamp
  valid := r.valid
  sync := s.clock.sync
  bay := { desc := s.ownDesc, states := r.states, bf := s.trip.bfRequest, trip := s.trip.state }
  path := none
  tick := some s.clock.tick

/-- The own-bay record fills the own slot of its set when that is open and EMPTY (R74). -/
def State.fillOwn (s : State) (r : OwnRecord) : State :=
  match s.own, s.findOpen r.index with
  | some n, some o =>
    let slot := o.slots.get n
    if slot.parityBad then s.damageSlot r.index n
    else if slot.body = .empty then s.writeSlot r.index n (.filled (s.ownContribution r) false)
    else s
  | _, _ => s

/-- The contribution of a SAMPLE frame that came on path `p` (R76). -/
def State.frameContribution (s : State) (p : Path) (f : Frame) (valid : Bool) (clamp : PerPhase Bool)
    (cur : PerPhase Int) (bay : BayInfo) : Contribution where
  cur := if valid then cur else .const 0
  clamp := clamp
  valid := valid
  sync := f.sync
  bay := bay
  path := some p
  tick := some s.clock.tick

/-- The station is the index authority (R79). -/
def State.isAuthority (s : State) (n : Station) : Bool := s.clock.authority == .peer n

/-- Set authority fit for an inserted frame of the authority (R79). -/
def State.noteFit (s : State) (n : Station) : State :=
  if s.isAuthority n then { s with asm := { s.asm with fit := true } } else s

/-- Set authority misfit for a discarded frame of the authority (R79). -/
def State.noteMisfit (s : State) (n : Station) : State :=
  if s.isAuthority n then { s with asm := { s.asm with misfit := true } } else s

/-- A SAMPLE frame meets the slot of its sender in open set `o` (R76, R77, R91). -/
def State.meetSlot (s : State) (o : OpenSet) (p : Path) (f : Frame) (c : Contribution) : State :=
  let slot := o.slots.get f.sender
  if slot.parityBad then s.damageSlot o.index f.sender
  else match slot.body with
    | .damaged => s
    | .empty => (s.writeSlot o.index f.sender (.filled c false)).noteFit f.sender
    | .filled c0 other =>
      (s.writeSlot o.index f.sender (.filled c0 (other || c0.path != some p))).countDup f.sender

/-- Where a SAMPLE frame's index lies against the open sets (R75). -/
inductive Placement where
  | noSet
  | inSet
  | early
  | late
deriving DecidableEq, Repr

/-- The placement of index `k` (R75). -/
def State.placement (s : State) (k : Nat) : Placement :=
  match s.asm.openSets with
  | [] => .noSet
  | o :: _ =>
    let d := ahead k o.index
    if d < s.asm.openSets.length then .inSet
    else if d < Config.indexHalf then .early
    else .late

/-- The assembler takes a SAMPLE frame (R75 to R79). -/
def State.assemblerTake (s : State) (p : Path) (f : Frame) : State :=
  match f.body with
  | .query => s
  | .status _ _ _ _ _ _ => s
  | .sample valid clamp cur bay =>
    if f.sig ≠ s.ownSig then s else
    match s.placement f.index with
    | .noSet => s
    | .early => (s.countEarly f.sender).noteMisfit f.sender
    | .late => (s.countLate f.sender).noteMisfit f.sender
    | .inSet =>
      match s.findOpen f.index with
      | none => s
      | some o => s.meetSlot o p f (s.frameContribution p f valid clamp cur bay)

/-! ## Completion and the deadline (R80, R81) -/

/-- A slot is no longer waited for: DAMAGED, or FILLED with its other-path copy noted or not expected
(R81). -/
def State.slotDone (s : State) (n : Station) (b : SlotBody) : Bool :=
  match b with
  | .empty => false
  | .damaged => true
  | .filled c other =>
    s.isOwn n || other ||
      (match c.path with
        | some p => !(s.link.paths.get p.other).state.good
        | none => true)

/-- The oldest open set is complete (R81). -/
def State.headComplete (s : State) : Bool :=
  match s.asm.openSets with
  | [] => false
  | o :: _ => s.working && stations.all fun n => !s.inPop n || s.slotDone n (o.slots.get n).body

/-- The deadline of the oldest open set has been reached (R80): the instant of it has been taken, so the set
that the instant opens is opened first (R73; assumption log 5). -/
def State.headDue (s : State) : Bool :=
  match s.asm.openSets with
  | [] => false
  | o :: _ => s.working && s.ta ≤ ahead s.clock.index o.index && ahead s.clock.index o.index < Config.indexHalf

/-! ## Settling (R83 to R88) -/

/-- The body of an open slot as the settling reads it: DAMAGED on a parity error (R91). -/
def OpenSlot.settled (o : OpenSlot) : SlotBody := if o.parityBad then .damaged else o.body

/-- Reports of reading the open slots at settling (R91). -/
def State.openReports (s : State) (o : OpenSet) : List FaultReport :=
  stations.flatMap fun n =>
    if s.inPop n && (o.slots.get n).parityBad then [slotFault o.index n false] else []

/-- Conditions 1 to 3 of R86: the gap run, the marks and the presence of set k - N. -/
def State.substSource (s : State) (k : Nat) (n : Station) : Option ClosedSet :=
  if s.asm.gap.get n ≤ 1 ∧ (s.asm.marks.get n).count true < 4 then s.histSet (indexBefore k s.cycleN) else none

/-- The slot of station `n` is eligible for substitution (R83, R84). -/
def State.eligible (s : State) (n : Station) (b : SlotBody) : Bool :=
  match b with
  | .damaged => false
  | .filled c _ =>
    c.sync.acceptable && !c.valid && ((s.entry n).state == .live || (s.entry n).state == .joining)
  | .empty => s.live n && (!s.isOwn n || s.clock.sync.acceptable)

/-- Reports of reading the sources of substitution; a source is read when conditions 1 to 3 of R86 hold (R86,
R91; assumption log 16). -/
def State.sourceReports (s : State) (o : OpenSet) : List FaultReport :=
  stations.flatMap fun n =>
    if s.inPop n && s.eligible n (o.slots.get n).settled then
      match s.substSource o.index n with
      | some c => c.readReport n
      | none => []
    else []

/-- The source of a granted substitution: the station's REAL slot in set k - N, read well (R86). -/
def State.grant (s : State) (k : Nat) (n : Station) : Option Contribution :=
  match s.substSource k n with
  | none => none
  | some c =>
    let slot := c.read n
    if slot.status = some .real then slot.contr else none

/-- The contents of a SUBSTITUTED slot (R87). -/
def State.substContents (s : State) (n : Station) (b : SlotBody) (src : Contribution) : Contribution :=
  match b with
  | .filled c _ => { c with cur := src.cur, clamp := src.clamp, valid := true }
  | .empty => { src with bay := (s.asm.lastBay.get n).getD src.bay, valid := true, path := none, tick := none }
  | .damaged => { src with bay := (s.asm.lastBay.get n).getD src.bay, valid := true, path := none, tick := none }

/-- The contribution a MISSING slot keeps (R83). -/
def SlotBody.kept : SlotBody → Option Contribution
  | .filled c _ => some c
  | .empty => none
  | .damaged => none

/-- A MISSING slot. -/
def SlotBody.missing (b : SlotBody) : ClosedSlot := { status := some .missing, contr := b.kept, parityBad := false }

/-- An eligible slot: SUBSTITUTED if R86 grants, else MISSING (R83). -/
def State.substitute (s : State) (k : Nat) (n : Station) (b : SlotBody) : ClosedSlot :=
  match s.grant k n with
  | some src => { status := some .substituted, contr := some (s.substContents n b src), parityBad := false }
  | none => b.missing

/-- The closed slot of a population station (R83, R84). -/
def State.settleSlot (s : State) (k : Nat) (n : Station) (b : SlotBody) : ClosedSlot :=
  if s.eligible n b then s.substitute k n b
  else match b with
    | .filled c _ =>
      if c.sync.acceptable && c.valid && ((s.entry n).state == .live || (s.entry n).state == .joining)
      then { status := some .real, contr := some c, parityBad := false } else b.missing
    | .empty => b.missing
    | .damaged => b.missing

/-- A slot outside the population: no status (05, 5.1). -/
def ClosedSlot.outside : ClosedSlot := { status := Option.none, contr := Option.none, parityBad := false }

/-- The closed slots of an open set (R83, R84). -/
def State.settleSlots (s : State) (o : OpenSet) : Tab 24 ClosedSlot :=
  .ofFn fun n => if s.inPop n then s.settleSlot o.index n (o.slots.get n).settled else ClosedSlot.outside

/-- The own slot settles MISSING because its sync state is not acceptable (R84). -/
def State.ownSyncFlag (s : State) (o : OpenSet) : Bool :=
  match s.own with
  | none => false
  | some n =>
    match (o.slots.get n).settled with
    | .filled c _ => !c.sync.acceptable
    | .empty => !s.clock.sync.acceptable
    | .damaged => false

/-- The closed set of an open one (R83, R84, R90). -/
def State.closedSet (s : State) (o : OpenSet) : ClosedSet where
  index := o.index
  slots := s.settleSlots o
  ownSync := s.ownSyncFlag o

/-- The assembler after a closure: history, gap runs, marks and last-bay records, reports cleared (R85,
R87, R88, R79, R90). -/
def State.assemblerAfter (s : State) (o : OpenSet) : Assembler :=
  let c := s.closedSet o
  { openSets := s.asm.openSets.tail
    history := c :: s.asm.history.take (Config.historyCap - 1)
    gap := .ofFn fun n =>
      if s.inPop n then (if (c.slots.get n).status = some .real then 0 else satInc 255 (s.asm.gap.get n))
      else s.asm.gap.get n
    marks := .ofFn fun n =>
      if s.inPop n then ((c.slots.get n).status == some .substituted) :: (s.asm.marks.get n).take 47
      else s.asm.marks.get n
    lastBay := .ofFn fun n =>
      match if s.inPop n then (o.slots.get n).settled.kept else none with
      | some k => some k.bay
      | none => s.asm.lastBay.get n
    fit := false
    misfit := false }

/-! ## Reports of a closure (R51, R69, R89) -/

/-- The path a closure charges for a peer's slot: the one on which no copy came, when both paths are UP or
DEGRADED (R51). -/
def State.chargedPath (s : State) (o : OpenSet) (n : Station) : Option Path :=
  if s.isOwn n || !s.inPop n || !(s.entry n).liveAtClosure then none else
  match (o.slots.get n).settled with
  | .filled c false =>
    match c.path with
    | some p =>
      if (s.link.paths.get p).state.good && (s.link.paths.get p.other).state.good then some p.other else none
    | none => none
  | .filled _ true => none
  | .empty => none
  | .damaged => none

/-- How many frames a closure charges to a path (R51). -/
def State.chargeCount (s : State) (o : OpenSet) (p : Path) : Nat :=
  stations.countP fun n => s.chargedPath o n == some p

/-- A path charged with `n` missed frames, if any (R50). -/
def PathCtl.chargeFrames (n : Nat) (p : PathCtl) : PathCtl := if n = 0 then p else p.charge (8 * n)

/-- The Link Controller takes the path reports of a closure (R51). -/
def State.linkAfter (s : State) (o : OpenSet) : Link :=
  { s.link with
    paths := ⟨s.link.paths.a.chargeFrames (s.chargeCount o .a), s.link.paths.b.chargeFrames (s.chargeCount o .b)⟩ }

/-- The roster counts the SUBST events of a closure (R69, R89). -/
def State.rosterSubst (s : State) (c : ClosedSet) : Roster :=
  { s.roster with
    entries := .ofFn fun n =>
      if (c.slots.get n).status = some .substituted
      then { s.entry n with subst := satInc Config.count16 (s.entry n).subst } else s.entry n }

/-- The assembler's own work at the closure of its oldest set: reads, settling, reports and the history
(R83 to R91). The open slots are read first, then the sources (assumption log 16). -/
def State.settle (s : State) (o : OpenSet) : State :=
  let s := s.takeFaults (s.openReports o ++ s.sourceReports o)
  { s with
    asm := s.assemblerAfter o
    link := s.linkAfter o
    roster := s.rosterSubst (s.closedSet o) }

end Sys2Proof.Machine
end

