-- ==== Sys2Proof/Machine/Replica.lean ====
section
/-! DEFINITION. The Zone Replica Unit (06): confirmation, the tie open-run, groups, member lists, reason
requests, membership changes and the own attachment, and END_OPEN. -/

namespace Sys2Proof.Machine

/-! ## Reading closed slots (R96) -/

/-- The contribution of a delivered slot that is usable for confirmation (R96). -/
def ClosedSlot.usable (c : ClosedSlot) : Option Contribution := if c.status.isSome then c.contr else none

/-- What a station's slot in set `k` of the history offers for confirmation (R96). -/
def State.usableAt (s : State) (k : Nat) (n : Station) : Option Contribution :=
  match s.histSet k with
  | none => none
  | some c => (c.read n).usable

/-- Reports of reading a station's slot in set `k` of the history (R91). -/
def State.slotReports (s : State) (k : Nat) (n : Station) : List FaultReport :=
  match s.histSet k with
  | none => []
  | some c => c.readReport n

/-- Reports of the replica's reads at the closure of set `k` (R91, R96). -/
def State.replicaReports (s : State) (k : Nat) : List FaultReport :=
  stations.flatMap fun n => if s.inPop n then s.slotReports (indexBefore k 1) n ++ s.slotReports k n else []

/-! ## Knowledge of one station (R97 to R101) -/

/-- The description confirmed by two usable slots (R97). -/
def Known.confirmDesc (a b : Option Contribution) (kn : Known) : Known :=
  match a, b with
  | some p, some c =>
    if p.bay.desc = c.bay.desc ∧ kn.desc ≠ some c.bay.desc then { Known.initial with desc := some c.bay.desc } else kn
  | none, _ => kn
  | some _, none => kn

/-- One point confirmed by two equal values (R98). -/
def confirmPoint (old : Option DPoint) (v w : DPoint) : Option DPoint := if v = w then some v else old

/-- The three points confirmed by two usable slots that carry the station's description (R98). -/
def Known.confirmPoints (a b : Option Contribution) (kn : Known) : Known :=
  match a, b with
  | some p, some c =>
    if kn.desc = some p.bay.desc ∧ kn.desc = some c.bay.desc then
      { kn with conf :=
        ⟨confirmPoint kn.conf.x p.bay.states.x c.bay.states.x,
         confirmPoint kn.conf.y p.bay.states.y c.bay.states.y,
         confirmPoint kn.conf.breaker p.bay.states.breaker c.bay.states.breaker⟩ }
    else kn
  | none, _ => kn
  | some _, none => kn

/-- The bay description is TIE. -/
def Known.isTie (kn : Known) : Bool :=
  match kn.desc with
  | some d => d.kind == .tie
  | none => false

/-- The bay description is FEEDER. -/
def Known.isFeeder (kn : Known) : Bool :=
  match kn.desc with
  | some d => d.kind == .feeder
  | none => false

/-- The open-run after confirmation; `wasOpen` says that the breaker was confirmed OPEN before (R101). -/
def Known.nextOpenRun (kn : Known) (wasOpen : Bool) : Option Nat :=
  if kn.isTie && kn.conf.breaker == some .opened then
    (if wasOpen then kn.openRun.map (satInc 48) else some 0)
  else none

/-- The open-run has reached Tend (R101). -/
def endOpenOf (tend : Nat) : Option Nat → Bool
  | some r => tend ≤ r
  | none => false

/-- The open-run and the end-open flag after confirmation (R101). -/
def Known.advanceRun (kn : Known) (wasOpen : Bool) (tend : Nat) : Known :=
  let r := kn.nextOpenRun wasOpen
  { kn with openRun := r, endOpen := endOpenOf tend r }

/-- The peer states at which the replica discards what it knows (R99). -/
def PeerState.discards : PeerState → Bool
  | .absent => true
  | .excluded => true
  | .joining => false
  | .live => false
  | .silent => false

/-- The replica starts afresh with a peer at step 2 of R95: it reads ABSENT or EXCLUDED, or returns from
EXCLUDED at this closure (R99). -/
def Entry.startsUnknown (e : Entry) : Bool := e.state.discards || e.excludedBefore

/-- Steps 2 and 3 of R95 up to the description: the own is the configuration's, a peer's is discarded or
confirmed (R97, R99). -/
def State.describe (s : State) (k : Nat) (n : Station) : Known :=
  let kn := s.replica.known.get n
  if s.isOwn n then { kn with desc := some s.ownDesc }
  else
    let kn := if (s.entry n).startsUnknown then Known.initial else kn
    kn.confirmDesc (s.usableAt (indexBefore k 1) n) (s.usableAt k n)

/-- Steps 2 to 4 of R95 for a population station (R97 to R99, R101). -/
def State.learn (s : State) (k : Nat) (n : Station) : Known :=
  let kn := s.describe k n
  (kn.confirmPoints (s.usableAt (indexBefore k 1) n) (s.usableAt k n)).advanceRun
    (kn.conf.breaker == some .opened) s.tend

/-- What is known of every station after steps 2 to 4; stations outside the population take no part
(R95, R100). -/
def State.learnAll (s : State) (k : Nat) : Tab 24 Known :=
  .ofFn fun n => if s.inPop n then s.learn k n else s.replica.known.get n

/-! ## Attachment (R100) -/

/-- The zone of a side that is an attached side: it has a zone and is not confirmed OPEN (R100). -/
def attachedSide (zone : Option Zone) (conf : Option DPoint) : Option Zone := if conf = some .opened then none else zone

/-- The zone of side X when it is attached (R100). -/
def Known.sideX (kn : Known) : Option Zone :=
  match kn.desc with
  | some d => attachedSide d.zx kn.conf.x
  | none => none

/-- The zone of side Y when it is attached (R100). -/
def Known.sideY (kn : Known) : Option Zone :=
  match kn.desc with
  | some d => attachedSide d.zy kn.conf.y
  | none => none

/-- The attachment: the zones of the attached sides (R100). -/
def Known.attachment (kn : Known) : ZoneSet := .ofFn fun z => kn.sideX == some z || kn.sideY == some z

/-- The attachment of a station is known (R100). -/
def State.attachKnown (s : State) (known : Tab 24 Known) (n : Station) : Bool :=
  s.inPop n && (s.isOwn n || !(s.entry n).state.discards) && (known.get n).desc.isSome

/-! ## Groups (R102, R103) -/

/-- Join the groups of two zones under the lower of their names (R102, R103). -/
def joinZones (p : Tab 4 Zone) (x y : Zone) : Tab 4 Zone :=
  let lo := min (p.get x) (p.get y)
  let hi := max (p.get x) (p.get y)
  .ofFn fun z => if p.get z = hi then lo else p.get z

/-- The join a station makes: a feeder of known attachment with both sides attached (R102). A feeder
whose sides name one zone joins nothing, which `joinZones` gives of itself. -/
def State.joinOf (s : State) (known : Tab 24 Known) (p : Tab 4 Zone) (n : Station) : Tab 4 Zone :=
  let kn := known.get n
  match kn.sideX, kn.sideY with
  | some x, some y => if s.attachKnown known n && kn.isFeeder then joinZones p x y else p
  | none, _ => p
  | some _, none => p

/-- The partition of a closure (R102). -/
def State.partition (s : State) (known : Tab 24 Known) : Tab 4 Zone :=
  stations.foldl (fun p n => s.joinOf known p n) (.ofFn id)

/-! ## Members (R104 to R106) -/

/-- The station holds at least one attached side. -/
def Known.attachedSome (kn : Known) : Bool := kn.sideX.isSome || kn.sideY.isSome

/-- A feeder's membership of group `g` (R104). -/
def feederSign (p : Tab 4 Zone) (kn : Known) (g : Zone) : Option Bool :=
  match kn.sideX.or kn.sideY with
  | some z => if p.get z = g then some true else none
  | none => none

/-- A tie's membership of group `g`: minus on side X, plus on side Y (R105). -/
def tieSign (p : Tab 4 Zone) (kn : Known) (g : Zone) : Option Bool :=
  match kn.sideX, kn.sideY with
  | some x, some y =>
    if p.get x = p.get y ∨ kn.endOpen = true then none
    else if p.get x = g then some false
    else if p.get y = g then some true
    else none
  | none, _ => none
  | some _, none => none

/-- The sign with which a station is a member of group `g`, `true` for +1 (R104, R105). -/
def State.memberSign (s : State) (known : Tab 24 Known) (p : Tab 4 Zone) (g : Zone) (n : Station) : Option Bool :=
  let kn := known.get n
  if !s.attachKnown known n then none
  else if kn.isTie then tieSign p kn g
  else feederSign p kn g

/-- The member list of group `g`, in ascending station number (R104, R105). -/
def State.memberList (s : State) (known : Tab 24 Known) (p : Tab 4 Zone) (g : Zone) : List Member :=
  stations.filterMap fun n => (s.memberSign known p g n).map fun plus => ⟨n, plus⟩

/-- The check-zone list (R106). -/
def State.checkList (s : State) (known : Tab 24 Known) : List Station :=
  stations.filter fun n => s.attachKnown known n && (known.get n).isFeeder && (known.get n).attachedSome

/-- The membership of a closure (R102 to R106). -/
def State.membershipOf (s : State) (known : Tab 24 Known) : Membership :=
  let p := s.partition known
  { groupOf := p, members := .ofFn fun g => s.memberList known p g, check := s.checkList known }

/-! ## Reason requests (R107, R108) -/

/-- Some population station has unknown attachment (R107). -/
def State.someUnknown (s : State) (known : Tab 24 Known) : Bool :=
  stations.any fun n => s.inPop n && !s.attachKnown known n

/-- A station is JOINING or SILENT (R108). -/
def State.notSteady (s : State) (n : Station) : Bool :=
  !s.isOwn n && ((s.entry n).state == .joining || (s.entry n).state == .silent)

/-- The requests of a closure (R107, R108). -/
def State.requestsOf (s : State) (known : Tab 24 Known) (m : Membership) : Requests where
  unknown := .ofFn fun g => m.inUse g && s.someUnknown known
  notLive := .ofFn fun g => m.inUse g && (m.members.get g).any fun e => s.notSteady e.station
  checkUnknown := s.someUnknown known
  checkNotLive := m.check.any s.notSteady

/-! ## Changes (R109 to R111) -/

/-- The zones of the group named `g`. -/
def Membership.zonesOf (m : Membership) (g : Zone) : ZoneSet := .ofFn fun z => m.groupOf.get z == g

/-- What changed at a closure (R109, R110). -/
structure Changes where
  changed : Tab 4 Bool
  dissolved : Tab 4 Bool
  former : Tab 4 ZoneSet
  check : Bool
deriving DecidableEq, Repr

/-- Group `g` of the new membership is changed against the reference (R109, R111). -/
def Replica.groupChanged (r : Replica) (m : Membership) (g : Zone) : Bool :=
  m.inUse g &&
    (!r.hasReference || !r.membership.inUse g || m.zonesOf g != r.membership.zonesOf g
      || m.members.get g != r.membership.members.get g)

/-- The former groups of group `g`: the groups of the reference that held any of its zones (R110, R111). -/
def Replica.formerOf (r : Replica) (m : Membership) (g : Zone) : ZoneSet :=
  .ofFn fun f => r.hasReference && zones.any fun z => m.groupOf.get z == g && r.membership.groupOf.get z == f

/-- The changes of a closure (R109, R110). -/
def Replica.changes (r : Replica) (m : Membership) : Changes where
  changed := .ofFn fun g => r.groupChanged m g
  dissolved := .ofFn fun g => r.hasReference && r.membership.inUse g && !m.inUse g
  former := .ofFn fun g => r.formerOf m g
  check := !r.hasReference || m.check != r.membership.check

/-! ## The closure (R95) -/

/-- The own attachment (R112). -/
def State.ownAttachmentOf (s : State) (known : Tab 24 Known) : ZoneSet :=
  match s.own with
  | some n => (known.get n).attachment
  | none => .const false

/-- The replica after the closure of set `k`, with the changes it hands on (R95). -/
def State.replicaNext (s : State) (k : Nat) : Replica × Changes :=
  let known := s.learnAll k
  let m := s.membershipOf known
  let ch := s.replica.changes m
  ({ known := known
     membership := m
     hasReference := true
     requests := s.requestsOf known m
     former := .ofFn fun g => if ch.changed.get g then ch.former.get g else s.replica.former.get g
     ownAttachment := s.ownAttachmentOf known }, ch)

/-- END_OPEN (R101): the open-run of a tie stands at Tend, so its breaker is end-open. -/
def execEndOpen (n : Station) (s : State) : Host.Outcome State Fault Refusal :=
  answer <|
    let kn := s.replica.known.get n
    if s.working && kn.isTie && endOpenOf s.tend kn.openRun then
      { s with replica := { s.replica with known := s.replica.known.set n { kn with endOpen := true } } }
    else s

end Sys2Proof.Machine
end

