-- ==== Sys2Proof/Machine/Differential.lean ====
section
/-! DEFINITION. The Differential Unit (07): terms, windows, the operate condition, the external-fault latch,
OPERATE and the block reasons, and HOLD_COUNTER_EXPIRY and DROP_OFF_EXPIRY. -/

namespace Sys2Proof.Machine

/-! ## Terms (R118, R119) -/

/-- The values a term takes from a member's delivered slot; none when it is MISSING (R118). -/
def ClosedSlot.value (c : ClosedSlot) : Option (PerPhase Int) :=
  match c.status with
  | some .real => c.contr.map Contribution.cur
  | some .substituted => c.contr.map Contribution.cur
  | some .missing => none
  | none => none

/-- A member's values in a closed set, 0 when its slot is MISSING (R118). -/
def ClosedSet.memberValue (c : ClosedSet) (m : Member) : PerPhase Int := ((c.read m.station).value).getD (.const 0)

/-- A member's slot is MISSING for a term (R118). -/
def ClosedSet.memberMissing (c : ClosedSet) (m : Member) : Bool := ((c.read m.station).value).isNone

/-- A value with a member's sign (R119). -/
def Member.signed (m : Member) (v : Int) : Int := if m.plus then v else -v

/-- Σ over the members, per phase (R119). -/
def ClosedSet.sigma (c : ClosedSet) (ms : List Member) : PerPhase Int :=
  ms.foldr (fun m acc => PerPhase.zip (· + ·) ((c.memberValue m).map m.signed) acc) (.const 0)

/-- The restraint over the members, per phase (R119). -/
def ClosedSet.restraint (c : ClosedSet) (ms : List Member) : PerPhase Nat :=
  ms.foldr (fun m acc => PerPhase.zip (· + ·) ((c.memberValue m).map Int.natAbs) acc) (.const 0)

/-- The term of a closed set under a member list (R119). -/
def ClosedSet.term (c : ClosedSet) (ms : List Member) : Term where
  index := c.index
  incomplete := ms.any c.memberMissing
  d := (c.sigma ms).map Int.natAbs
  s := c.restraint ms
  parityBad := false

/-- The check zone's members, each with sign +1 (R106). -/
def Membership.checkMembers (m : Membership) : List Member := m.check.map fun n => ⟨n, true⟩

/-! ## Windows (R120 to R125) -/

/-- Totals of a ring, per phase (R120). -/
def ringTotal (f : Term → PerPhase Nat) (ring : List Term) : PerPhase Nat :=
  ring.foldr (fun t acc => PerPhase.zip (· + ·) (f t) acc) (.const 0)

/-- A window with these entries, its sums and counts being their totals (R120, R122). -/
def Slot.withRing (t : Slot) (ring : List Term) : Slot :=
  { t with
    ring := ring
    sumD := ringTotal Term.d ring
    sumS := ringTotal Term.s ring
    fill := ring.length
    incomplete := ring.countP Term.incomplete }

/-- The entries of a rebuild: the most recent min(W, history count) sets, ascending (R122). -/
def State.rebuiltRing (s : State) (ms : List Member) : List Term :=
  ((s.asm.history.take s.windowW).reverse).map fun c => c.term ms

/-- A rebuilt slot (R122). -/
def State.rebuild (s : State) (t : Slot) (ms : List Member) : Slot := (t.unoperate).withRing (s.rebuiltRing ms)

/-- Append a term (R121). -/
def Slot.append (t : Slot) (e : Term) : Slot :=
  { t with
    ring := t.ring ++ [e]
    sumD := PerPhase.zip (· + ·) t.sumD e.d
    sumS := PerPhase.zip (· + ·) t.sumS e.s
    fill := t.fill + 1
    incomplete := t.incomplete + (if e.incomplete then 1 else 0) }

/-- Remove the oldest term (R121). -/
def Slot.dropOldest (t : Slot) : Slot :=
  match t.ring with
  | [] => t
  | e :: rest =>
    { t with
      ring := rest
      sumD := PerPhase.zip (· - ·) t.sumD e.d
      sumS := PerPhase.zip (· - ·) t.sumS e.s
      fill := t.fill - 1
      incomplete := t.incomplete - (if e.incomplete then 1 else 0) }

/-- The oldest entry, when the ring holds W entries and it is to be removed (R121). -/
def Slot.leaving (t : Slot) (w : Nat) : Option Term := if w ≤ t.ring.length then t.ring.head? else none

/-- The entry to be removed has a parity error (R125). -/
def Slot.leavingBad (t : Slot) (w : Nat) : Bool :=
  match t.leaving w with
  | some e => e.parityBad
  | none => false

/-- The update of an unchanged slot with the term of the set just closed (R121, R125). -/
def State.update (s : State) (t : Slot) (ms : List Member) (c : ClosedSet) : Slot :=
  if t.leavingBad s.windowW then t.withRing (s.rebuiltRing ms)
  else if (t.leaving s.windowW).isSome then t.dropOldest.append (c.term ms)
  else t.append (c.term ms)

/-! ## Reports of the unit's reads (R91, R118, R125, R166) -/

/-- Reports of reading the members of a list in one set (R91, R118). -/
def ClosedSet.listReports (c : ClosedSet) (ms : List Member) : List FaultReport :=
  ms.flatMap fun m => c.readReport m.station

/-- Reports of the reads of a rebuild, in ascending set index (R91, R122). -/
def State.rebuildReports (s : State) (ms : List Member) : List FaultReport :=
  ((s.asm.history.take s.windowW).reverse).flatMap fun c => c.listReports ms

/-- Reports of the reads for a slot in use at the closure of set `c` (R118, R122, R125). -/
def State.windowReports (s : State) (name : SlotName) (t : Slot) (ms : List Member) (changed : Bool) (c : ClosedSet) :
    List FaultReport :=
  if changed then s.rebuildReports ms
  else c.listReports ms ++
    (if t.leavingBad s.windowW then ringFault name c.index :: s.rebuildReports ms else [])

/-! ## The latch (R128 to R130) -/

/-- A complete term shows external-fault evidence in some phase (R128). -/
def Term.evidence (t : Term) (iext : Nat) : Bool :=
  (PerPhase.zip (fun d s => decide (iext ≤ s ∧ 4 * d ≤ s)) t.d t.s).any

/-- The latch after a complete term with evidence (R129). -/
def Latch.withEvidence (l : Latch) (operate : Bool) (thold : Nat) : Latch :=
  let run := satInc 2 l.evidence
  if l.latched then { evidence := run, latched := true, hold := thold }
  else if run = 2 ∧ operate = false then { evidence := run, latched := true, hold := thold }
  else { l with evidence := run }

/-- The latch after a complete term without evidence (R129). -/
def Latch.withoutEvidence (l : Latch) : Latch :=
  if l.latched then
    (if l.hold ≤ 1 then { evidence := 0, latched := false, hold := 0 }
     else { evidence := 0, latched := true, hold := l.hold - 1 })
  else { l with evidence := 0 }

/-- The latch after the newest term of its group (R129). -/
def Latch.advance (l : Latch) (operate : Bool) (iext thold : Nat) : Option Term → Latch
  | none => l
  | some t =>
    if t.incomplete then l
    else if t.evidence iext then l.withEvidence operate thold
    else l.withoutEvidence

/-- The latch carried to a rebuilt group from its former groups (R130). -/
def carriedLatch (old : Tab 4 Latch) (former : ZoneSet) : Latch :=
  let held := (zones.filter former.get).map old.get |>.filter Latch.latched
  if held.isEmpty then Latch.initial
  else { evidence := 0, latched := true, hold := (held.map Latch.hold).foldl max 0 }

/-! ## The operate condition and OPERATE (R126, R131 to R133) -/

/-- The operate condition of one phase (R126, R127). -/
def conditionPhase (idmin w slope d s : Nat) : Bool := idmin * w ≤ d && slope * s ≤ 64 * d

/-- The operate condition of a slot, per phase (R126). -/
def Slot.condition (t : Slot) (idmin w slope : Nat) : PerPhase Bool :=
  if t.fill = w ∧ t.incomplete = 0 then PerPhase.zip (conditionPhase idmin w slope) t.sumD t.sumS else .const false

/-- OPERATE and the drop-off run after the counter update of a slot that is not BLOCKED (R132). -/
def Slot.operateStep (t : Slot) (nop w : Nat) (some_ : Bool) : Slot :=
  if t.counter = nop then { t with operate := true, dropOff := 0 }
  else if !t.operate then t
  else if some_ then { t with dropOff := 0 }
  else if w ≤ t.dropOff + 1 then { t with operate := false, dropOff := 0 }
  else { t with dropOff := t.dropOff + 1 }

/-- Step 6 of R117 for one slot in use (R126, R131 to R134). -/
def Slot.evaluate (t : Slot) (blocked : Bool) (idmin w nop slope : Nat) : Slot :=
  if blocked then { t with phases := .const false, counter := 0 }
  else
    let c := t.condition idmin w slope
    { t with phases := c, counter := if c.any then satInc nop t.counter else 0 }.operateStep nop w c.any

/-! ## The closure (R117) -/

/-- The unit after the replica's requests and the own-sync flag have replaced the former ones (R136, R137). -/
def State.withReasons (s : State) : Diff :=
  let r := s.replica.requests
  { s.diff with
    groups := .ofFn fun g =>
      { s.diff.groups.get g with notLive := r.notLive.get g, unknown := r.unknown.get g }
    check := { s.diff.check with notLive := r.checkNotLive, unknown := r.checkUnknown }
    ownSync := (s.asm.history.take s.windowW).any ClosedSet.ownSync }

/-- Step 1 of R117 (R136, R137). -/
def State.diffReasons (s : State) : State := { s with diff := Diff.reblock s.diff s.withReasons }

/-- The window of one group name at step 2 of R117 (R121 to R123). -/
def State.groupWindow (s : State) (ch : Changes) (c : ClosedSet) (g : Zone) : Slot :=
  let t := s.diff.groups.get g
  let ms := s.replica.membership.members.get g
  if ch.dissolved.get g then Slot.initial
  else if ch.changed.get g then s.rebuild t ms
  else if s.replica.membership.inUse g then s.update t ms c
  else t

/-- The latch of one group name at step 2 of R117 (R122, R123, R130). -/
def State.groupLatch (s : State) (ch : Changes) (old : Tab 4 Latch) (g : Zone) : Latch :=
  if ch.dissolved.get g then Latch.initial
  else if ch.changed.get g then carriedLatch old (ch.former.get g)
  else s.diff.latches.get g

/-- Reports of step 2 of R117 for one group name. -/
def State.groupReports (s : State) (ch : Changes) (c : ClosedSet) (g : Zone) : List FaultReport :=
  if s.replica.membership.inUse g then
    s.windowReports (.group g) (s.diff.groups.get g) (s.replica.membership.members.get g) (ch.changed.get g) c
  else []

/-- Step 2 of R117 for one group name, with the latches as they stood before the closure (R121 to R125,
R130). -/
def State.diffGroup (ch : Changes) (old : Tab 4 Latch) (c : ClosedSet) (s : State) (g : Zone) : State :=
  let s := s.takeFaults (s.groupReports ch c g)
  { s with diff := { s.diff with
      groups := s.diff.groups.set g (s.groupWindow ch c g)
      latches := s.diff.latches.set g (s.groupLatch ch old g) } }

/-- Step 3 of R117: the check-zone window (R121, R122, R125). -/
def State.diffCheck (s : State) (ch : Changes) (c : ClosedSet) : State :=
  let ms := s.replica.membership.checkMembers
  let s := s.takeFaults (s.windowReports .check s.diff.check ms ch.check c)
  { s with diff := { s.diff with
      check := if ch.check then s.rebuild s.diff.check ms else s.update s.diff.check ms c } }

/-- MISSING of a slot: in use with an incomplete count above 0 (R135). -/
def Slot.withMissing (t : Slot) (inUse : Bool) : Slot := { t with missing := inUse && t.incomplete != 0 }

/-- The unit with MISSING set in each slot in use that holds an incomplete term (R135). -/
def State.withMissing (s : State) : Diff :=
  { s.diff with
    groups := .ofFn fun g => (s.diff.groups.get g).withMissing (s.replica.membership.inUse g)
    check := s.diff.check.withMissing true }

/-- Step 4 of R117 (R135). -/
def State.diffMissing (s : State) : State := { s with diff := Diff.reblock s.diff s.withMissing }

/-- Step 5 of R117, with OPERATE as it stood after step 2 (R129). -/
def State.diffLatches (s : State) (operate : Tab 4 Bool) : State :=
  { s with diff := { s.diff with
      latches := .ofFn fun g =>
        if s.replica.membership.inUse g then
          (s.diff.latches.get g).advance (operate.get g) s.iext s.thold (s.diff.groups.get g).ring.getLast?
        else s.diff.latches.get g } }

/-- The slope of a group's condition (R126). -/
def State.slopeOf (s : State) (g : Zone) : Nat := if (s.diff.latches.get g).latched then s.slopeKL else s.slopeK

/-- Step 6 of R117 (R126, R131 to R134). -/
def State.diffEvaluate (s : State) : State :=
  { s with diff := { s.diff with
      groups := .ofFn fun g =>
        let t := s.diff.groups.get g
        if s.replica.membership.inUse g then
          t.evaluate (s.diff.blocked t) s.idmin s.windowW s.nop (s.slopeOf g)
        else t
      check := s.diff.check.evaluate (s.diff.blocked s.diff.check) s.idmin s.windowW s.nop s.slopeKc } }

/-- What step 7 of R117 hands the Trip Unit of the groups and the check zone (R140). -/
structure Handed where
  groups : Tab 4 Bool
  groupPhases : Tab 4 (PerPhase Bool)
  check : Bool
  checkPhases : PerPhase Bool
deriving DecidableEq, Repr

/-- Step 7 of R117: OPERATE and the operated phases of the groups and of the check zone (R140). -/
def Diff.handed (d : Diff) : Handed where
  groups := .ofFn fun g => (d.groups.get g).operate
  groupPhases := .ofFn fun g => (d.groups.get g).phases
  check := d.check.operate
  checkPhases := d.check.phases

/-- The OPERATE flags of the groups. -/
def Diff.operates (d : Diff) : Tab 4 Bool := .ofFn fun g => (d.groups.get g).operate

/-- The unit's work for the closure of set `c`, after the replica's: steps 1 to 6 of R117. Step 2 takes the group
names in ascending order (assumption log 16). -/
def State.differential (s : State) (ch : Changes) (c : ClosedSet) : State :=
  let old := s.diff.latches
  let s := zones.foldl (State.diffGroup ch old c) s.diffReasons
  let operate := s.diff.operates
  ((s.diffCheck ch c).diffMissing.diffLatches operate).diffEvaluate

/-! ## Expiries -/

/-- HOLD_COUNTER_EXPIRY (R129): the hold counter of a LATCHED group stands at 0. -/
def execHoldCounterExpiry (g : Zone) (s : State) : Host.Outcome State Fault Refusal :=
  answer <|
    let l := s.diff.latches.get g
    if s.working && l.latched && l.hold == 0 then
      { s with diff := { s.diff with latches := s.diff.latches.set g { l with latched := false } } }
    else s

/-- OPERATE ends when the drop-off run stands at W (R132). -/
def Slot.expireDropOff (t : Slot) (w : Nat) : Slot :=
  if t.operate && w ≤ t.dropOff then { t with operate := false, dropOff := 0 } else t

/-- DROP_OFF_EXPIRY (R132): the drop-off run of a slot in OPERATE stands at W. -/
def execDropOffExpiry (slot : SlotName) (s : State) : Host.Outcome State Fault Refusal :=
  answer <|
    if s.working then
      match slot with
      | .group g => { s with diff := { s.diff with groups := s.diff.groups.modify g fun t => t.expireDropOff s.windowW } }
      | .check => { s with diff := { s.diff with check := s.diff.check.expireDropOff s.windowW } }
    else s

end Sys2Proof.Machine
end

