-- ==== Sys2Proof/Machine/Trip.lean ====
section
/-! DEFINITION. The Trip Unit (08): own current sums, peers' requests, breaker failure, causes and demand,
the TRIP output and the test trip, the trip record and the trip state, and BF_TIMER_EXPIRY and
MINIMUM_TIME_EXPIRY. -/

namespace Sys2Proof.Machine

/-! ## Step 1: the own current sums (R151) -/

/-- The most recent min(W, history count) sets, newest first. -/
def State.span (s : State) : List ClosedSet := s.asm.history.take s.windowW

/-- The magnitudes of the own slot in a closed set (R151); a MISSING slot adds 0 (assumption log 42). -/
def ClosedSet.ownMagnitude (c : ClosedSet) (n : Station) : PerPhase Nat :=
  (((c.read n).value).getD (.const 0)).map Int.natAbs

/-- The own current sums over a list of sets (R151). -/
def ownSumsOf (n : Station) (cs : List ClosedSet) : PerPhase Nat :=
  cs.foldr (fun c acc => PerPhase.zip (· + ·) (c.ownMagnitude n) acc) (.const 0)

/-- The sums are known: W sets, none of their own slots MISSING (R151). -/
def sumsKnownOf (w : Nat) (n : Station) (cs : List ClosedSet) : Bool :=
  w ≤ cs.length && cs.all fun c => ((c.read n).value).isSome

/-- Step 1 of R144 (R151). -/
def State.tripSums (s : State) : Trip :=
  match s.own with
  | none => { s.trip with ownSums := .const 0, sumsKnown := false }
  | some n => { s.trip with ownSums := ownSumsOf n s.span, sumsKnown := sumsKnownOf s.windowW n s.span }

/-- Every phase's sum is below Ibf × W (R151, R154). -/
def sumsBelow (ibf w : Nat) (p : PerPhase Nat) : Bool := (p.map fun v => decide (v < ibf * w)).all

/-- The current is low (R151). -/
def State.currentLow (s : State) : Bool := s.trip.sumsKnown && sumsBelow s.ibf s.windowW s.trip.ownSums

/-- The breaker is open: the own breaker's confirmed state is OPEN (R151). -/
def State.breakerOpen (s : State) : Bool :=
  match s.own with
  | none => false
  | some n => (s.replica.known.get n).conf.breaker == some .opened

/-! ## Step 2: peers' requests (R157, R158) -/

/-- What a peer's slot in set `k` carries (R157). -/
def State.carriedAt (s : State) (k : Nat) (n : Station) : Carried :=
  match s.usableAt k n with
  | none => .unusable
  | some c =>
    match c.bay.bf with
    | none => .absent
    | some z => .zones z

/-- What the peer's slot in set k - 1 carried; unusable when the history does not hold that set (R157). -/
def State.previousCarried (s : State) (k : Nat) (n : Station) : Carried :=
  if (s.histSet (indexBefore k 1)).isSome then s.trip.carried.get n else .unusable

/-- The peer's slot in set `k` is REAL (R158). -/
def State.realAt (s : State) (k : Nat) (n : Station) : Bool :=
  match s.histSet k with
  | none => false
  | some c => (c.read n).status == some .real

/-- A peer's confirmed request after the closure of set `k` (R157, R158). -/
def State.confirmRequest (s : State) (k : Nat) (n : Station) : Option ZoneSet :=
  if !s.live n then none else
  match s.carriedAt k n with
  | .zones z => if s.previousCarried k n = .zones z then some z else s.trip.confirmed.get n
  | .absent => if s.realAt k n then none else s.trip.confirmed.get n
  | .unusable => s.trip.confirmed.get n

/-- Step 2 of R144 (R157, R158). -/
def State.tripRequests (s : State) (k : Nat) : Trip :=
  { s.trip with
    confirmed := .ofFn fun n => if s.isPeer n then s.confirmRequest k n else s.trip.confirmed.get n
    carried := .ofFn fun n => if s.isPeer n then s.carriedAt k n else s.trip.carried.get n }

/-- Reports of the unit's reads at the closure of set `k` (R91, R151, R157). -/
def State.tripReports (s : State) (k : Nat) : List FaultReport :=
  (match s.own with
    | none => []
    | some n => (s.span.reverse).flatMap fun c => c.readReport n)
  ++ stations.flatMap fun n => if s.isPeer n then s.slotReports k n else []

/-! ## Step 3: breaker failure (R153 to R155) -/

/-- Either criterion of breaker failure holds (R154). -/
def State.bfCriterion (s : State) : Bool :=
  !s.trip.sumsKnown || !sumsBelow s.ibf s.windowW s.trip.ownSums || (s.bfBreaker && !s.breakerOpen)

/-- Breaker failure is declared or the state returns to IDLE (R154). -/
def State.declareBf (s : State) : Trip :=
  if s.bfCriterion then
    { s.trip with
      bf := .failed
      bfTimer := 0
      bfRequest := if s.replica.ownAttachment.nonempty then some s.replica.ownAttachment else none }
  else { s.trip with bf := .idle, bfTimer := 0 }

/-- Step 3 of R144 (R153 to R155). -/
def State.tripBf (s : State) : Trip :=
  match s.trip.bf with
  | .idle => s.trip
  | .timing =>
    if s.currentLow && s.breakerOpen then { s.trip with bf := .idle, bfTimer := 0 }
    else if s.trip.bfTimer ≤ 1 then s.declareBf
    else { s.trip with bfTimer := s.trip.bfTimer - 1 }
  | .failed =>
    if s.currentLow && s.breakerOpen then { s.trip with bf := .idle, bfRequest := none } else s.trip

/-! ## Step 4: causes and demand (R145 to R147) -/

/-- Some attached group and the check zone were in OPERATE as handed for the closure (R145). -/
def State.zoneCause (s : State) (h : Handed) : Bool := h.check && zones.any fun g => s.attachedGroup g && h.groups.get g

/-- A confirmed request maps to attached group `g` (R146). -/
def State.requestMaps (s : State) (n : Station) (g : Zone) : Bool :=
  match s.trip.confirmed.get n with
  | none => false
  | some z => s.attachedGroup g && zones.any fun x => z.get x && s.replica.membership.groupOf.get x == g

/-- The station is a requesting station (R146). -/
def State.requesting (s : State) (n : Station) : Bool := s.isPeer n && zones.any fun g => s.requestMaps n g

/-- The causes of a closure (R145 to R147). -/
def State.causesNow (s : State) (h : Handed) : Causes where
  zone := s.zoneCause h
  intertrip := stations.any s.requesting
  retrip := s.trip.bf == .failed

/-- At least one cause is present. -/
def Causes.any (c : Causes) : Bool := c.zone || c.intertrip || c.retrip

/-- Step 4 of R144 (R145 to R147). -/
def State.tripCauses (s : State) (h : Handed) : Trip :=
  let c := s.causesNow h
  { s.trip with causes := c, demand := c.any && !s.bay.blockIn.active }

/-! ## Steps 5 to 7: TRIP, the record and the trip state (R148 to R150, R152, R161) -/

/-- The first present cause of the order RETRIP, INTERTRIP, ZONE (R149). -/
def Causes.first (c : Causes) : TripState :=
  if c.retrip then .retrip else if c.intertrip then .intertrip else if c.zone then .zone else .none

/-- The output that step 5 acts on: TRIP, or the test trip in TEST (R148, R161). -/
def Trip.asserted (t : Trip) (test : Bool) : Bool := if test then t.testTrip else t.output

/-- Assert or drop the output of step 5. -/
def Trip.drive (t : Trip) (test v : Bool) : Trip := if test then { t with testTrip := v } else { t with output := v }

/-- The recorded group (R150). -/
def State.recordGroup (s : State) (h : Handed) : Option Zone :=
  if s.trip.causes.zone then zones.find? fun g => s.attachedGroup g && h.groups.get g
  else if s.trip.causes.intertrip then
    zones.find? fun g => stations.any fun n => s.isPeer n && s.requestMaps n g
  else none

/-- The trip record of an assertion at the closure of set `k` (R150). -/
def State.recordOf (s : State) (h : Handed) (test : Bool) (k : Nat) : TripRecord where
  test := test
  index := k
  causes := s.trip.causes
  reported := s.trip.causes.first
  group := s.recordGroup h
  groupPhases :=
    match s.recordGroup h with
    | some g => h.groupPhases.get g
    | none => .const false
  checkPhases := h.checkPhases
  requester :=
    if s.trip.causes.intertrip then
      (match stations.find? s.requesting with
        | some n => n.num
        | none => 0)
    else 0
  bf := s.trip.bf

/-- Step 6 of R144: an assertion for a fault starts TIMING from IDLE, in RUN (R152, R161). -/
def Trip.startTiming (t : Trip) (test : Bool) (tbf : Nat) : Trip :=
  if !test && (t.causes.zone || t.causes.intertrip) && t.bf == .idle then { t with bf := .timing, bfTimer := tbf } else t

/-- Steps 5 and 6 of R144 at the closure of set `k` (R148, R150, R152, R161). -/
def State.tripOutput (s : State) (h : Handed) (test : Bool) (k : Nat) : Trip :=
  let t := s.trip
  if !t.asserted test then
    (if t.demand then
      ({ t.drive test true with minTime := s.tmin, record := some (s.recordOf h test k) }).startTiming test s.tbf
     else t)
  else
    let left := t.minTime - 1
    if !t.demand && left == 0 then { t.drive test false with minTime := 0 } else { t with minTime := left }

/-- Step 7 of R144 (R149). -/
def Trip.setState (t : Trip) (test : Bool) : Trip :=
  if !t.asserted test then { t with state := .none }
  else if t.demand then { t with state := t.causes.first, lastCause := t.causes.first }
  else { t with state := t.lastCause }

/-- Replace the Trip Unit, and report the TRIP output to the Mode Controller (R160). -/
def State.withTrip (s : State) (t : Trip) : State :=
  { s with trip := t, ctl := { s.ctl with tripReported := t.output } }

/-- The mode is TEST. -/
def State.inTest (s : State) : Bool := s.ctl.mode == .test

/-- The unit's work for the closure of set `k`, with what step 7 of R117 handed it (R140, R144). -/
def State.tripUnit (s : State) (h : Handed) (k : Nat) : State :=
  let s := s.takeFaults (s.tripReports k)
  let s := s.withTrip s.tripSums
  let s := s.withTrip (s.tripRequests k)
  let s := s.withTrip s.tripBf
  let s := s.withTrip (s.tripCauses h)
  s.withTrip ((s.tripOutput h s.inTest k).setState s.inTest)

/-! ## Expiries -/

/-- BF_TIMER_EXPIRY (R154): the BF timer of a TIMING state stands at 0. -/
def execBfTimerExpiry (s : State) : Host.Outcome State Fault Refusal :=
  answer <| if s.inRun && s.trip.bf == .timing && s.trip.bfTimer == 0 then s.withTrip s.declareBf else s

/-- MINIMUM_TIME_EXPIRY (R148, R149, R161): the minimum-time counter stands at 0 without a demand. -/
def execMinimumTimeExpiry (s : State) : Host.Outcome State Fault Refusal :=
  answer <|
    if s.working && s.trip.asserted s.inTest && s.trip.minTime == 0 && !s.trip.demand then
      s.withTrip { s.trip.drive s.inTest false with state := .none }
    else s

end Sys2Proof.Machine
end

