-- ==== Sys2Proof/Machine/Closure.lean ====
section
/-! DEFINITION. The closure of a set (R80 to R82) with the work of every block that counts closures, and
SET_DEADLINE. -/

namespace Sys2Proof.Machine

/-- The replica's and the Differential Unit's work for the closure of set `c` (R95, R117). -/
def State.zoneWork (s : State) (c : ClosedSet) : State :=
  let s := s.takeFaults (s.replicaReports c.index)
  let r := s.replicaNext c.index
  { s with replica := r.1 }.differential r.2 c

/-- The newest closed set. -/
def State.newestClosed (s : State) : Option ClosedSet := s.asm.history.head?

/-- The zone work, the datapath check and the Trip Unit's work for the set just closed. A fault that the check
or the Trip Unit's own reads raise comes after the states were handed (R95, R117, R140, R144, R164). -/
def State.protectionWork (s : State) : State :=
  match s.newestClosed with
  | none => s
  | some c =>
    let t := s.zoneWork c
    (t.datapathCheck c.index).tripUnit t.diff.handed c.index

/-- The blocks' work for the closure of open set `o` in the order of assumption log 13. -/
def State.closureWork (s : State) (o : OpenSet) : State :=
  ((s.settle o).rosterClosure.clockClosure s.asm.fit s.asm.misfit).protectionWork

/-- HALTED was entered while the closure's work was in progress, with result `t`: the closure is not
finished, and the records, FAULT and the mode alone are kept (R94, R116, R143, R169, R170; assumption
log 12). -/
def State.abortClosure (s t : State) : State :=
  let u := s.leaveMode
  { u with
    sup := t.sup
    ctl := { u.ctl with mode := .halted }
    diff := if t.diff.fault && !s.diff.fault then u.diff.addFault else u.diff }

/-- The mode is HALTED. -/
def State.isHalted (s : State) : Bool := s.ctl.mode == .halted

/-- The closure of open set `o`, the oldest, as one event, with the recheck count last (R82, R167). -/
def State.closeSet (s : State) (o : OpenSet) : State :=
  let t := s.closureWork o
  if t.isHalted then s.abortClosure t else t.recheckClosure

/-- The closure of the oldest open set. -/
def State.closeHead (s : State) : State :=
  match s.asm.openSets with
  | [] => s
  | o :: _ => s.closeSet o

/-- Close complete sets while the oldest is complete, at most `fuel` of them (R82). -/
def State.closeCompleteN : Nat → State → State
  | 0, s => s
  | fuel + 1, s => if s.headComplete then State.closeCompleteN fuel s.closeHead else s

/-- Close complete sets while the oldest is complete (R82). -/
def State.closeComplete (s : State) : State := State.closeCompleteN s.asm.openSets.length s

/-- Close the oldest set at its deadline, then the complete sets behind it (R80, R82). -/
def State.deadline (s : State) : State := if s.headDue then s.closeHead.closeComplete else s

/-- Deadlines that stand reached are taken, at most `fuel` of them. -/
def State.overdueN : Nat → State → State
  | 0, s => s
  | fuel + 1, s => if s.headDue then State.overdueN fuel s.deadline else s

/-- Every deadline that stands reached is taken before the next instant (assumption log 5). -/
def State.overdue (s : State) : State := State.overdueN s.asm.openSets.length s

/-- SET_DEADLINE (R80), after an acquisition step that is due. -/
def execSetDeadline (s : State) : Host.Outcome State Fault Refusal := answer s.takeStep.deadline

end Sys2Proof.Machine
end

