-- ==== Sys2Proof/Machine/Bay.lean ====
section
/-! DEFINITION. The Bay Input Unit (01): scaling, the reference check, ADC LOST, debouncing, travel
supervision, the own-bay record and the sample instant, and TRAVEL_EXPIRY and DRDY_RISE. -/

namespace Sys2Proof.Machine

/-! ## Scaling and clamping (R5, R6) -/

/-- Divide by 16,384 and round to the nearest integer, halves away from zero (R5). -/
def roundScale (p : Int) : Int := if 0 ≤ p then (p + 8192) / 16384 else -((-p + 8192) / 16384)

/-- The sample of a code and a factor, with its clamp flag (R5, R6). -/
def scaleCode (a : Int) (m : Nat) : Int × Bool :=
  if a = 32767 then (32767, true)
  else if a = -32768 then (-32767, true)
  else
    let x := roundScale (a * m)
    if 32767 < x then (32767, true) else if x < -32767 then (-32767, true) else (x, false)

/-! ## The reference check and ADC LOST (R7, R8) -/

/-- The reference code lies in the configured window (R7). -/
def State.refGood (s : State) (r : Int) : Bool := s.refLo ≤ r && r ≤ s.refHi

/-- A failed instant (R8). The failure run counts up to 3 from where it stands, also while ADC LOST is raised
(assumption log 47). -/
def Bay.failed (b : Bay) : Bay :=
  let run := satInc 3 b.failRun
  { b with failRun := run, goodRun := 0, adcLost := b.adcLost || run == 3 }

/-- A good instant (R8). -/
def Bay.good (b : Bay) : Bay :=
  if b.adcLost then
    (if Config.sampleRate ≤ b.goodRun + 1 then { b with failRun := 0, goodRun := 0, adcLost := false }
     else { b with failRun := 0, goodRun := b.goodRun + 1 })
  else { b with failRun := 0 }

/-- The runs after an instant that was good or failed (R8). -/
def Bay.judge (b : Bay) (good : Bool) : Bay := if good then b.good else b.failed

/-! ## Positions (R9 to R13) -/

/-- The raw state of a pair of contacts (R9). -/
def rawState (c : Contacts) : DPoint :=
  match c.openOn, c.closedOn with
  | true, false => .opened
  | false, true => .closed
  | false, false => .moving
  | true, true => .invalid

/-- The stability count of a new raw value against the candidate (R10). -/
def stability {α : Type} [DecidableEq α] (count : Nat) (cand : Option α) (stab : Nat) (raw : α) : Nat :=
  if cand = some raw then satInc count stab else 1

/-- Travel supervision at an instant, given whether the debounced state has just changed (R12). -/
def Debounce.travelStep (d : Debounce) (changed : Bool) (limit : Nat) : Debounce :=
  if d.deb ≠ .moving then { d with travel := none, expired := false }
  else if changed then { d with travel := some 0, expired := false }
  else if d.expired then d
  else
    let c := d.travel.getD 0 + 1
    { d with travel := some c, expired := decide (limit ≤ c) }

/-- The debouncing of a device at an instant (R10, R12). -/
def Debounce.step (d : Debounce) (count limit : Nat) (raw : DPoint) : Debounce :=
  let stab := stability count d.cand d.stab raw
  let take := stab == count && raw != d.deb
  { d with cand := some raw, stab := stab, deb := if take then raw else d.deb }.travelStep take limit

/-- The debouncing of BLOCK IN at an instant, `raw` being its level (R11). -/
def BlockDebounce.step (b : BlockDebounce) (count : Nat) (raw : Bool) : BlockDebounce :=
  let stab := stability count b.cand b.stab raw
  { cand := some raw, stab := stab, active := if stab = count then raw else b.active }

/-- The reported state of a device (R12). -/
def Debounce.reported (d : Debounce) : DPoint := if d.expired then .invalid else d.deb

/-- Some device has its expired marker set (R13). -/
def someExpired (d : PerDevice Debounce) : Bool := d.x.expired || d.y.expired || d.breaker.expired

/-- TRAVEL follows the expired markers (R13). -/
def Bay.setTravel (b : Bay) : Bay := { b with travel := someExpired b.dev }

/-- The position and BLOCK IN update of an instant (R9 to R13). -/
def State.positions (s : State) : Bay :=
  let c := s.debounceCount
  let step (d : Device) := (s.bay.dev.get d).step c (s.travelTime d) (rawState (s.pins.contacts.get d))
  Bay.setTravel
    { s.bay with dev := ⟨step .x, step .y, step .breaker⟩, blockIn := s.bay.blockIn.step c s.pins.blockIn }

/-- TRAVEL_EXPIRY (R12, R13): the travel count of a device stands at its travel time while it is MOVING. -/
def execTravelExpiry (d : Device) (s : State) : Host.Outcome State Fault Refusal :=
  answer <|
    let e := s.bay.dev.get d
    if s.working && e.deb == .moving && !e.expired && e.travel.any fun c => s.travelTime d ≤ c then
      { s with bay := Bay.setTravel { s.bay with dev := s.bay.dev.set d { e with expired := true } } }
    else s

/-! ## The conversion (R2, R4) -/

/-- CONV is pulsed for index `k` (assumption log 36): a conversion not yet ended is abandoned, and the wait
begins (R2, R4). -/
def Bay.startConversion (b : Bay) (k : Nat) : Bay :=
  { b with conv := .waitDrdy, convLine := true, convIndex := k, wait := 0, readTicks := 0 }

/-- Conversions run in RUN, in TEST and in self-test step 4 (R1, R15). -/
def State.converts (s : State) : Bool :=
  s.working || (s.ctl.mode == .selftest && s.ctl.step == some 4 && !s.resetHeld)

/-- DRDY rises: in WAIT-DRDY with the wait below 4,800 ticks the read starts (R2). -/
def State.drdy (s : State) : State :=
  if s.converts && s.bay.conv == .waitDrdy && decide (s.bay.wait < Config.adcLimit) then
    { s with bay := { s.bay with conv := .reading, readTicks := 0 } }
  else s

/-- DRDY_RISE (R2), after an acquisition step that is due. -/
def execDrdyRise (s : State) : Host.Outcome State Fault Refusal := answer s.takeStep.drdy

/-! ## The own-bay record (R7, R14) -/

/-- The reported states of the devices (R12). -/
def Bay.reported (b : Bay) : PerDevice DPoint := b.dev.map Debounce.reported

/-- The record of an instant whose measurement is invalid (R7, R14). -/
def Bay.invalidRecord (b : Bay) : OwnRecord where
  index := b.convIndex
  cur := .const 0
  clamp := .const false
  valid := false
  states := b.reported

/-- The record of an instant whose measurement is valid (R5, R6, R14). -/
def State.validRecord (s : State) (codes : PerPhase Int) : OwnRecord :=
  let x := PerPhase.zip scaleCode codes s.scale
  { index := s.bay.convIndex
    cur := x.map Prod.fst
    clamp := x.map Prod.snd
    valid := true
    states := s.bay.reported }

/-- Completion is evaluated for set `k`: when it is the oldest, it and the complete sets behind it close
(R81, R82). -/
def State.evaluateSet (s : State) (k : Nat) : State :=
  match s.asm.openSets with
  | [] => s
  | o :: _ => if o.index = k then s.closeComplete else s

/-- The record is kept and handed to the Link Controller and the Set Assembler (R14, R39, R74, R81). -/
def State.handRecord (s : State) (r : OwnRecord) : State :=
  let s := { s with bay := { s.bay with record := some r } }
  ((s.sendRecord r).fillOwn r).evaluateSet r.index

/-- A conversion of RUN or TEST ends without a measurement: an ADC timeout (R2, R7, R8). The runs and ADC LOST are
updated before the record is handed off (assumption log 45). -/
def State.endTimeout (s : State) : State :=
  let s := { s with bay := { s.bay with conv := .idle }.failed }
  s.handRecord s.bay.invalidRecord

/-- A conversion of RUN or TEST ends with these codes (R3, R5 to R8). The runs and ADC LOST are updated before the
record is handed off (assumption log 45). -/
def State.endRead (s : State) (codes : PerPhase Int) (ref : Int) : State :=
  let good := s.refGood ref
  let s := { s with bay := { s.bay with conv := .idle }.judge good }
  s.handRecord (if good then s.validRecord codes else s.bay.invalidRecord)

/-! ## The sample instant (R17, R44, R73) -/

/-- The periodic STATUS request: k is 100 × own number modulo 2,400, in RUN (R44). -/
def State.periodicStatus (s : State) (k : Nat) : Link :=
  { s.link with
    statusPending := s.link.statusPending
      || (s.ctl.mode == .run && k % Config.sampleRate == 100 * s.ctl.strap % Config.sampleRate) }

/-- The instant at the present tick: the clock counts it, the bay is read, the conversion starts and its
set opens (R1, R2, R9, R17, R44, R73). -/
def State.instantNow (s : State) : State :=
  let c := s.clock.instant (s.ctl.mode == .run) s.holdoverLimit
  let t := { s with clock := c, bay := s.positions.startConversion c.index, link := s.periodicStatus c.index }
  t.openSet c.index

/-- The input levels read at an instant (R9, R11). -/
def State.latchPins (s : State) (contacts : PerDevice Contacts) (blockIn : Bool) : State :=
  { s with pins := { s.pins with contacts := contacts, blockIn := blockIn } }

end Sys2Proof.Machine
end

