-- ==== Sys2Proof/Machine/Arrival.lean ====
section
/-! DEFINITION. ARRIVAL: the five acceptance steps of a received frame and its hand-over (R45 to R49). -/

namespace Sys2Proof.Machine

/-- A frame failed step 1: the FCS count and 8 on the health count (R45). -/
def PathCtl.badFcs (p : PathCtl) : PathCtl := { p with fcs := satInc Config.count16 p.fcs }.charge 8

/-- A frame failed step 3: the malformed count and 8 on the health count (R47). -/
def PathCtl.badPayload (p : PathCtl) : PathCtl := { p with malformed := satInc Config.count16 p.malformed }.charge 8

/-- A frame failed step 4: the foreign count (R48). -/
def PathCtl.badSender (p : PathCtl) : PathCtl := { p with foreign := satInc Config.count16 p.foreign }

/-- Change the control of one path. -/
def State.onPath (s : State) (p : Path) (f : PathCtl → PathCtl) : State := { s with link := s.link.onPath p f }

/-- A path is UP or DEGRADED. -/
def State.pathGood (s : State) (p : Path) : Bool := (s.link.paths.get p).state.good

/-- The slot takes a frame: it is EMPTY or FILLED, or this read finds it damaged (R76, R77, R91). A slot that
was DAMAGED before takes none. -/
def OpenSlot.takesFrame (e : OpenSlot) : Bool := e.parityBad || e.body != .damaged

/-- A SAMPLE frame of the own scheme meets a slot of an open set that takes it, and the set's completion is
then evaluated (R76, R77, R81; assumption log 16). -/
def State.evaluatesAfter (s : State) (f : Frame) : Bool :=
  f.body.isSample && f.sig == s.ownSig && s.placement f.index == .inSet
    && (s.findOpen f.index).any fun o => (o.slots.get f.sender).takesFrame

/-- The three blocks take an accepted frame in the order roster, assembler with the closures that follow,
clock (R49; assumption log 15). -/
def State.handOver (s : State) (p : Path) (f : Frame) : State :=
  let t := (s.rosterTake p f).assemblerTake p f
  (if s.evaluatesAfter f then t.evaluateSet f.index else t).clockTake f

/-- An accepted frame: 1 off the health count, and the hand-over on a path that was UP or DEGRADED (R49). -/
def State.acceptFrame (s : State) (p : Path) (f : Frame) : State :=
  let t := s.onPath p PathCtl.credit
  if s.pathGood p then t.handOver p f else t

/-- Step 5 and what follows (R48, R49, R61). -/
def State.judgeOwn (s : State) (p : Path) (f : Frame) : State :=
  if s.isOwn f.sender then (if s.pathGood p then s.hearOwn else s) else s.acceptFrame p f

/-- Step 4 and what follows (R48). -/
def State.judgeSender (s : State) (p : Path) (f : Frame) : State :=
  if s.inMask f.sender then s.judgeOwn p f else s.onPath p PathCtl.badSender

/-- Steps 1 to 3 and what follows (R45 to R47). -/
def State.judgeFrame (s : State) (p : Path) (bytes : List Byte) (phyError : Bool) : State :=
  if !frameGood bytes phyError then s.onPath p PathCtl.badFcs
  else if !s.schemeFrame bytes then s
  else match parseFrame bytes with
    | none => s.onPath p PathCtl.badPayload
    | some f => s.judgeSender p f

/-- The path takes received frames: in RUN, when it is not DOWN (R36, R49). -/
def State.receives (s : State) (p : Path) : Bool := s.inRun && (s.link.paths.get p).state != .down

/-- ARRIVAL (R45 to R49), after an acquisition step that is due. -/
def execArrival (p : Path) (frame : List Byte) (phyError : Bool) (s : State) : Host.Outcome State Fault Refusal :=
  answer <|
    let t := s.takeStep
    if t.receives p then t.judgeFrame p frame phyError else t

end Sys2Proof.Machine
end

