-- ==== Sys2Proof/Machine/Selftest.lean ====
section
/-! DEFINITION. Resets and the self-test (R178, R179, R181 to R186, R54, R15), and COLD_RESET, PORST_RISE,
WARM_RESET, WRST_RISE, STORAGE_TEST, LOOPBACK_RETURN and MCLK_CHECK. -/

namespace Sys2Proof.Machine

/-! ## Resets (R178, R179) -/

/-- COLD_RESET (R178): PORST goes low and every block is held at its cold-reset values. -/
def execColdReset (s : State) : Host.Outcome State Fault Refusal :=
  answer { s with pins := { s.pins with porstLow := true } }.coldValues

/-- PORST_RISE (R178): the straps are latched and SELFTEST is entered at step 7, with start kind cold. -/
def execPorstRise (stn : BitVec 5) (pben : Bool) (s : State) : Host.Outcome State Fault Refusal :=
  answer <|
    if s.pins.porstLow then
      { s with
        pins := { s.pins with porstLow := false }
        ctl := { s.ctl with strap := stn.toNat, pben := pben } }.coldValues
    else s

/-- WARM_RESET (R179): WRST goes low and every block is held at its warm-reset values; PORST low takes
precedence (R178). -/
def execWarmReset (s : State) : Host.Outcome State Fault Refusal :=
  answer <|
    let t := { s with pins := { s.pins with wrstLow := true } }
    if s.pins.porstLow then t else t.warmValues

/-- WRST_RISE (R179): SELFTEST is entered at step 7 with start kind warm, unless PORST holds the
station (R178). -/
def execWrstRise (s : State) : Host.Outcome State Fault Refusal :=
  answer <|
    if s.pins.wrstLow then
      let t := { s with pins := { s.pins with wrstLow := false } }
      if s.pins.porstLow then t else t.warmValues
    else s

/-! ## Steps 7, 6 and 5 (R182 to R184) -/

/-- The self-test is at step `n` and no reset holds the station (R181). -/
def State.atStep (s : State) (n : Nat) : Bool := s.ctl.mode == .selftest && s.ctl.step == some n && !s.resetHeld

/-- A self-test step fails: HALTED with its number (R180, R181). -/
def State.failStep (s : State) (n : Nat) : State := s.halt (.selftest n) none

/-- Step `n` starts (R181). -/
def State.toStep (s : State) (n : Nat) : State := { s with ctl := { s.ctl with step := some n } }

/-- A conversion attempt starts (R15, R185). -/
def State.startAttempt (s : State) : State :=
  { s with
    bay := s.bay.startConversion s.bay.convIndex
    ctl := { s.ctl with attempts := s.ctl.attempts + 1, attemptTicks := 0 } }

/-- Step 4 starts with its first attempt (R185). -/
def State.startStep4 (s : State) : State :=
  (State.startAttempt { s with ctl := { s.ctl with attempts := 0 } }).toStep 4

/-- Step 5: after a warm reset a stored block whose CRC does not agree is discarded (R184). -/
def State.checkStored (s : State) : State :=
  if s.ctl.start = .warm ∧ s.ctl.store ≠ .empty ∧ blockCrcGood s.blockBytes = false then
    { s with ctl := { s.ctl with store := .empty, block := none, signature := none } }
  else s

/-- The storage test leaves no set, history entry or window term (R182). -/
def State.clearStorage (s : State) : State :=
  { s with
    asm := { s.asm with openSets := [], history := [] }
    diff := { s.diff with
      groups := .ofFn fun g => (s.diff.groups.get g).withRing []
      check := s.diff.check.withRing [] } }

/-- STORAGE_TEST (R182 to R184): step 7 ends; when it passes, step 6 compares all masks, step 5 checks the
stored block, and step 4 starts. -/
def execStorageTest (passed : Bool) (s : State) : Host.Outcome State Fault Refusal :=
  answer <|
    if s.atStep 7 then
      let t := s.clearStorage
      if !passed then t.failStep 7
      else if !t.health.selftestPasses then (t.toStep 6).failStep 6
      else t.checkStored.startStep4
    else s

/-! ## Step 3: the loopback (R54, R186) -/

/-- The header of the loopback frame: the stored block's address and link type, or all ones and 0600h
with none (R54, R186). -/
def State.loopHeader (s : State) : List Byte :=
  if s.ctl.store = .empty then headerOf (List.replicate 6 0xFF#8) s.ctl.strap 0x0600 else s.header

/-- The payload of the loopback frame: 00h to 2Dh in order (R54). -/
def loopPayload : List Byte := (List.range 46).map toByte

/-- The loopback frame that the MAC of a path sends to itself (R54). -/
def State.loopFrame (s : State) : List Byte := wireFrame s.loopHeader loopPayload

/-- A path is tested: enabled, with its link-up line high (R54). -/
def State.loopTests (s : State) (p : Path) : Bool := s.enabled p && s.pins.lup.get p

/-- The loopback frame goes out on a path, the MAC of which is in internal loopback (R54). -/
def State.startLoop (s : State) (p : Path) : State :=
  { s with ctl := { s.ctl with loopPath := some p, loopFrame := some s.loopFrame, loopTicks := 0 } }

/-- No loopback is left: step 2 starts (R186). -/
def State.endLoops (s : State) : State :=
  { s with ctl := { s.ctl with step := some 2, loopPath := none, loopFrame := none, loopTicks := 0 } }

/-- Step 3 starts, path A first (R186). -/
def State.startStep3 (s : State) : State :=
  let t := s.toStep 3
  if t.loopTests .a then t.startLoop .a else if t.loopTests .b then t.startLoop .b else t.endLoops

/-- After the test of a path, path B follows path A (R186). A path's line is judged when its own turn comes
(assumption log 39). -/
def State.nextLoop (s : State) (p : Path) : State :=
  match p with
  | .a => if s.loopTests .b then s.startLoop .b else s.endLoops
  | .b => s.endLoops

/-- The loopback result of a path; one that failed is FAILED with count 255, and one whose line has gone
low stays DOWN (R54). -/
def PathCtl.loopResult (passed : Bool) (p : PathCtl) : PathCtl :=
  if passed || p.state == .down then { p with loopback := some passed }
  else { p with loopback := some passed, state := .failed, health := 255 }

/-- The loopback of a path ends (R54, R186). -/
def State.endLoop (s : State) (p : Path) (passed : Bool) : State :=
  ({ s with link := s.link.onPath p (PathCtl.loopResult passed) }).nextLoop p

/-- The returned frame passes step 1 and its payload is unchanged (R54). -/
def loopGood (frame : List Byte) (phyError : Bool) : Bool :=
  frameGood frame phyError && frame.length == 64 && (frame.drop 14).take 46 == loopPayload

/-- LOOPBACK_RETURN (R54): within 1 ms, its last tick included, the loopback frame returns. -/
def execLoopbackReturn (frame : List Byte) (phyError : Bool) (s : State) : Host.Outcome State Fault Refusal :=
  answer <|
    match s.ctl.loopPath with
    | some p =>
      if s.atStep 3 && decide (s.ctl.loopTicks ≤ Config.loopbackTicks) then s.endLoop p (loopGood frame phyError) else s
    | none => s

/-! ## Step 4: conversion attempts (R15, R185) -/

/-- The reference window of an attempt is used: a block is stored and its ref lo is below its ref hi (R185). -/
def State.attemptWindow (s : State) : Bool := s.ctl.store != .empty && decide (s.refLo < s.refHi)

/-- An attempt whose read completed with this reference code succeeds (R15, R185). -/
def State.attemptGood (s : State) (ref : Int) : Bool := !s.attemptWindow || s.refGood ref

/-- The outcome of an attempt: the step passes, waits for the next attempt, or fails with the third (R185). -/
def State.endAttempt (s : State) (passed : Bool) : State :=
  let t := { s with bay := { s.bay with conv := .idle, convLine := false } }
  if passed then t.startStep3 else if 3 ≤ t.ctl.attempts then t.failStep 4 else t

/-! ## Steps 2 and 1 (R186) -/

/-- Step 1: RUN with a COMMITTED store, else CONFIG (R186, R189). -/
def State.endSelftest (s : State) : State := if s.ctl.store = .committed then s.enterRun else s.enterConfig

/-- MCLK_CHECK (R186): the RC interval of step 2 ends with this count of ticks. -/
def execMclkCheck (count : Nat) (s : State) : Host.Outcome State Fault Refusal :=
  answer <|
    if s.atStep 2 then
      (if 23520 ≤ count ∧ count ≤ 24480 then (s.toStep 1).endSelftest else s.failStep 2)
    else s

end Sys2Proof.Machine
end

