-- ==== Sys2Proof/Machine/Timed.lean ====
section
/-! DEFINITION. The passage of ticks with the events that the block's own timers bring (assumption logs 3 and
5), and the rows that are timed: SAMPLE_INSTANT, ADC_TIMEOUT, READ_COMPLETE, PPS_TIMEOUT, MARK_MISSING,
CONVERSION_ATTEMPT and LOOPBACK_TIMEOUT. -/

namespace Sys2Proof.Machine

/-! ## Events of the block's own timers -/

/-- An event that a timer of the block brings by itself. -/
inductive Timed where
  /-- ADC timeout (R2). -/
  | adc
  /-- PPS timeout (R20). -/
  | pps
  /-- Missing mark (R22). -/
  | mark
  /-- Next conversion attempt of the self-test (R185). -/
  | attempt
  /-- Loopback timeout of the self-test (R54). -/
  | loop
deriving DecidableEq, Repr

/-- Every timed event, in the order in which those due at one tick are taken (assumption log 5). -/
def Timed.all : List Timed := [.adc, .pps, .mark, .attempt, .loop]

/-- Ticks left to a timed event; none while its timer does not run. -/
def State.ticksTo (s : State) : Timed → Option Nat
  | .adc => if s.converts && s.bay.conv == .waitDrdy then some (Config.adcLimit - s.bay.wait) else none
  | .pps =>
    if s.inRun && s.syncPps && s.clock.lastEdge.isSome then some (Config.markLimit - s.clock.sinceEdge) else none
  | .mark => if s.inRun && s.clock.lastMark.isSome then some (Config.markLimit - s.clock.sinceMark) else none
  | .attempt =>
    if s.atStep 4 && s.bay.conv == .idle && decide (s.ctl.attempts < 3)
    then some (Config.attemptTicks - s.ctl.attemptTicks) else none
  | .loop => if s.atStep 3 && s.ctl.loopPath.isSome then some (Config.loopbackTicks - s.ctl.loopTicks) else none

/-- A timed event takes place at the present tick. -/
def State.takeTimed (s : State) : Timed → State
  | .adc => if s.working then s.endTimeout else s.endAttempt false
  | .pps => { s with clock := s.clock.ppsSilent }
  | .mark => { s with clock := s.clock.missMark }
  | .attempt => s.startAttempt
  | .loop =>
    match s.ctl.loopPath with
    | some p => s.endLoop p false
    | none => s

/-- A timed event takes place if it stands due at the present tick. -/
def State.takeDue (s : State) (e : Timed) : State := if s.ticksTo e = some 0 then s.takeTimed e else s

/-- The earliest of some events, the first of those at one tick. -/
def earliest : List (Nat × Timed) → Option (Nat × Timed)
  | [] => none
  | x :: xs =>
    match earliest xs with
    | none => some x
    | some y => if x.1 ≤ y.1 then some x else some y

/-- The first timed event that falls before `n` ticks have passed. -/
def State.firstTimed (s : State) (n : Nat) : Option (Nat × Timed) :=
  earliest (Timed.all.filterMap fun e => ((s.ticksTo e).filter fun m => m < n).map fun m => (m, e))

/-- `n` ticks pass, and each of at most `fuel` timed events that fall before their end is taken at its tick. -/
def State.passN : Nat → Nat → State → State
  | 0, n, s => s.elapse n
  | fuel + 1, n, s =>
    match s.firstTimed n with
    | none => s.elapse n
    | some (m, e) => State.passN fuel (n - m) ((s.elapse m).takeTimed e)

/-- `n` ticks pass, and each timed event that falls before their end is taken at its tick (assumption logs 3
and 5). -/
def State.pass (s : State) (n : Nat) : State := State.passN Config.passFuel n s

/-- What stands due is taken, an acquisition step first and then every deadline reached (assumption log 5). -/
def State.settleDue (s : State) : State := s.takeStep.overdue

/-- The row of a timed event: the ticks that are missing to it pass and it is taken, unless a sample instant
comes first (assumption log 3). -/
def State.timedRow (s : State) (e : Timed) : State :=
  let t := s.settleDue
  match t.ticksTo e with
  | none => t
  | some n => if t.passes n then (t.pass n).takeDue e else t

/-! ## The timed rows -/

/-- ADC_TIMEOUT (R2): 4,800 ticks have passed after CONV without a DRDY rise. -/
def execAdcTimeout (s : State) : Host.Outcome State Fault Refusal := answer (s.timedRow .adc)

/-- PPS_TIMEOUT (R20): 24,002,400 ticks have passed after an edge. -/
def execPpsTimeout (s : State) : Host.Outcome State Fault Refusal := answer (s.timedRow .pps)

/-- MARK_MISSING (R22): 24,002,400 ticks have passed after the last mark. -/
def execMarkMissing (s : State) : Host.Outcome State Fault Refusal := answer (s.timedRow .mark)

/-- CONVERSION_ATTEMPT (R185): 10,000 ticks after the start of the one before, the next attempt starts. -/
def execConversionAttempt (s : State) : Host.Outcome State Fault Refusal := answer (s.timedRow .attempt)

/-- LOOPBACK_TIMEOUT (R54): the loopback frame has not returned within 1 ms. -/
def execLoopbackTimeout (s : State) : Host.Outcome State Fault Refusal := answer (s.timedRow .loop)

/-- The end of a read in the mode at hand (R3, R15). -/
def State.readDone (s : State) (bits : BitVec 64) : State :=
  if s.converts && s.bay.conv == .reading then
    let codes := adcCodes bits
    if s.working then s.endRead codes.1 codes.2 else s.endAttempt (s.attemptGood codes.2)
  else s

/-- READ_COMPLETE (R3): the 64th bit is taken, 256 ticks after the read started. -/
def execReadComplete (bits : BitVec 64) (s : State) : Host.Outcome State Fault Refusal :=
  answer <|
    let t := s.settleDue
    let n := Config.readTicks - t.bay.readTicks
    if t.converts && t.bay.conv == .reading && t.passes n then (t.pass n).readDone bits else t

/-- SAMPLE_INSTANT (R17): what is due first is taken, the rest of the period passes, and the instant is
taken with the levels of the contacts and of BLOCK IN (assumption logs 3 and 5). -/
def execSampleInstant (contacts : PerDevice Contacts) (blockIn : Bool) (s : State) : Host.Outcome State Fault Refusal :=
  answer <|
    let t := s.settleDue
    if t.working then
      let u := (t.pass t.clock.remaining).takeDue .adc
      if u.working then (u.latchPins contacts blockIn).instantNow else u
    else t

end Sys2Proof.Machine
end

