-- ==== Sys2Proof/Machine/Examine.lean ====
section
/-! DEFINITION. EXAMINE (R201, R202): the forms of the line, the records and their fields, and the text of
the reply lines. The labels and the words of values are assumption log 18's. -/

namespace Sys2Proof.Machine

/-! ## The form of the line (R201) -/

/-- What an EXAMINE line asks for, or the error it is answered with. -/
inductive Asked where
  | record (r : Rec)
  | error (e : ErrLine)
deriving DecidableEq, Repr

/-- The path of an index word (R201). -/
def pathWord (w : List Byte) : Option Path :=
  if w = [0x41#8] then some .a else if w = [0x42#8] then some .b else none

/-- The record of a name without an index given: its first index (R201). -/
def recordOfName (w : List Byte) : Option Rec :=
  if w = [0x4D#8, 0x4F#8, 0x44#8, 0x45#8] then some .mode
  else if w = [0x53#8, 0x59#8, 0x4E#8, 0x43#8] then some .sync
  else if w = [0x50#8, 0x41#8, 0x54#8, 0x48#8] then some (.path .a)
  else if w = [0x52#8, 0x4F#8, 0x53#8, 0x54#8, 0x45#8, 0x52#8] then some (.roster 0)
  else if w = [0x47#8, 0x52#8, 0x4F#8, 0x55#8, 0x50#8] then some (.group 0)
  else if w = [0x43#8, 0x48#8, 0x45#8, 0x43#8, 0x4B#8] then some .check
  else if w = [0x54#8, 0x52#8, 0x49#8, 0x50#8] then some .trip
  else if w = [0x46#8, 0x41#8, 0x55#8, 0x4C#8, 0x54#8] then some .fault
  else if w = [0x48#8, 0x41#8, 0x4C#8, 0x54#8] then some .halt
  else if w = [0x43#8, 0x4F#8, 0x4E#8, 0x46#8, 0x49#8, 0x47#8] then some .config
  else if w = [0x43#8, 0x4F#8, 0x55#8, 0x4E#8, 0x54#8, 0x53#8] then some .counts
  else none

/-- The record at an index given; none when it takes none or the index is out of range (R201). -/
def Rec.atIndex (r : Rec) (w : List Byte) : Option Rec :=
  match r with
  | .path _ => (pathWord w).map .path
  | .roster _ => ((decimalOf w).bind stationOf).map .roster
  | .group _ => ((decimalOf w).bind zoneOf).map .group
  | .mode => none
  | .sync => none
  | .check => none
  | .trip => none
  | .fault => none
  | .halt => none
  | .config => none
  | .counts => none

/-- The record at the next index; none for one without indices or at its last (R201). -/
def Rec.next (r : Rec) : Option Rec :=
  match r with
  | .path .a => some (.path .b)
  | .path .b => none
  | .roster n => (stationOf (n.val + 2)).map .roster
  | .group g => (zoneOf (g.val + 2)).map .group
  | .mode => none
  | .sync => none
  | .check => none
  | .trip => none
  | .fault => none
  | .halt => none
  | .config => none
  | .counts => none

/-- A record, or ?08 ILL IDX without one. -/
def Asked.ofIndex : Option Rec → Asked
  | some r => .record r
  | none => .error .illIdx

/-- The record of a name, with the words after it (R201). -/
def askName (w : List Byte) (rest : List (List Byte)) : Asked :=
  match recordOfName w with
  | none => .error .illRec
  | some r =>
    match rest with
    | [] => .record r
    | i :: _ => Asked.ofIndex (r.atIndex i)

/-- A cursor form: `+` when `next` holds, else `*`, with the words after it (R201). -/
def askCursor (cursor : Option Rec) (next : Bool) (rest : List (List Byte)) : Asked :=
  match cursor with
  | none => .error .illRec
  | some r => if !rest.isEmpty then .error .illCmd else if next then Asked.ofIndex r.next else .record r

/-- What the words after EXAMINE ask for (R201). -/
def ask (cursor : Option Rec) (ws : List (List Byte)) : Asked :=
  if 2 < ws.length then .error .illCmd else
  match ws with
  | [] => askCursor cursor true []
  | w :: rest =>
    if w = [0x2B#8] then askCursor cursor true rest
    else if w = [0x2A#8] then askCursor cursor false rest
    else askName w rest

/-! ## Names of values (R202) -/

/-- YES or NO. -/
def yesNo (b : Bool) : Val := .word (if b then "YES" else "NO")

/-- A number or NONE. -/
def numOr : Option Nat → Val
  | some n => .num n
  | none => .word "NONE"

/-- A raised or clear condition. -/
def raised (b : Bool) : Val := .word (if b then "RAISED" else "CLEAR")

/-- An asserted or deasserted output. -/
def assertedWord (b : Bool) : Val := .word (if b then "ASSERTED" else "DEASSERTED")

/-- Name of a mode (R177). -/
def Mode.word : Mode → String
  | .selftest => "SELFTEST"
  | .config => "CONFIG"
  | .test => "TEST"
  | .run => "RUN"
  | .halted => "HALTED"

/-- Name of a sync state (00_scope.md 4.8). -/
def SyncState.word : SyncState → String
  | .unlocked => "UNLOCKED"
  | .acquiring => "ACQUIRING"
  | .lockedPps => "LOCKED-PPS"
  | .lockedPeer => "LOCKED-PEER"
  | .lockedSelf => "LOCKED-SELF"
  | .holdover => "HOLDOVER"

/-- Name of a double-point state (00_scope.md 4.8). -/
def DPoint.word : DPoint → String
  | .opened => "OPEN"
  | .closed => "CLOSED"
  | .moving => "MOVING"
  | .invalid => "INVALID"

/-- Name of a confirmed state. -/
def confWord : Option DPoint → Val
  | some d => .word d.word
  | none => .word "UNCONFIRMED"

/-- Name of a path state (R52). -/
def PathState.word : PathState → String
  | .down => "DOWN"
  | .up => "UP"
  | .degraded => "DEGRADED"
  | .failed => "FAILED"

/-- Name of a peer state (R59). -/
def PeerState.word : PeerState → String
  | .absent => "ABSENT"
  | .joining => "JOINING"
  | .live => "LIVE"
  | .silent => "SILENT"
  | .excluded => "EXCLUDED"

/-- Name of a protection state (03, 3.2.1). -/
def ProtState.word : ProtState → String
  | .active => "ACTIVE"
  | .blocked => "BLOCKED"
  | .faulted => "FAULTED"

/-- Name of a trip state (R149). -/
def TripState.word : TripState → String
  | .none => "NONE"
  | .zone => "ZONE"
  | .intertrip => "INTERTRIP"
  | .retrip => "RETRIP"

/-- Name of a breaker-failure state (R152). -/
def BfState.word : BfState → String
  | .idle => "IDLE"
  | .timing => "TIMING"
  | .failed => "FAILED"

/-- Name of a bay kind (00_scope.md 5). -/
def BayKind.word : BayKind → String
  | .feeder => "FEEDER"
  | .tie => "TIE"

/-- Name of a store state (R187). -/
def StoreState.word : StoreState → String
  | .empty => "EMPTY"
  | .loaded => "LOADED"
  | .committed => "COMMITTED"

/-- Name of a fault code (09, 9.5). -/
def FaultCode.word : FaultCode → String
  | .datapath => "DATAPATH"
  | .storage => "STORAGE"

/-- Name of a reporting block (R166). -/
def Reporter.word : Reporter → String
  | .supervision => "SUPERVISION UNIT"
  | .assembler => "SET ASSEMBLER"
  | .differential => "DIFFERENTIAL UNIT"

/-- Name of a halt code (R172). -/
def HaltCode.word : HaltCode → String
  | .stop => "STOP"
  | .doubleFault => "DOUBLE FAULT"
  | .configCorrupt => "CONFIG CORRUPT"
  | .selftest _ => "SELFTEST"

/-- Name of a phase. -/
def Phase.word : Phase → String
  | .l1 => "L1"
  | .l2 => "L2"
  | .l3 => "L3"

/-- The names of the flags that are set, in order: a set of names. -/
def wordsIf (l : List (Bool × String)) : Val := .words ((l.filter Prod.fst).map Prod.snd)

/-- A set of phases. -/
def phaseSet (p : PerPhase Bool) : Val := wordsIf [(p.l1, "L1"), (p.l2, "L2"), (p.l3, "L3")]

/-- A set of zones or group names. -/
def zoneVal (z : ZoneSet) : Val := .nums ((zones.filter z.get).map fun g => g.val + 1)

/-- A set of zones, or NONE when absent. -/
def zoneValOr (z : Option ZoneSet) : Val := zoneVal (z.getD (.const false))

/-- A set of causes. -/
def causesVal (c : Causes) : Val := wordsIf [(c.zone, "ZONE"), (c.intertrip, "INTERTRIP"), (c.retrip, "RETRIP")]

/-- Three lines for the phases of a value. -/
def phaseFields (label1 label2 label3 : String) (p : PerPhase Nat) : List ReplyLine :=
  [.field label1 (.num p.l1), .field label2 (.num p.l2), .field label3 (.num p.l3)]

/-- The lines of a bay description. -/
def descFields : Option BayDesc → List ReplyLine
  | some d =>
    [.field "BAY KIND" (.word d.kind.word), .field "ZONE X" (.num (zoneNum d.zx)), .field "ZONE Y" (.num (zoneNum d.zy))]
  | none => [.field "BAY KIND" (.word "NONE")]

/-! ## The records (R202 and the rules its table names) -/

/-- The alarm set as names (R168). -/
def AlarmSet.val (a : AlarmSet) : Val :=
  wordsIf [(a.adcLost, "ADC LOST"), (a.travel, "TRAVEL"), (a.syncLoss, "SYNC LOSS"), (a.path, "PATH"),
    (a.conflict, "CONFLICT"), (a.view, "VIEW")]

/-- The MODE record. -/
def State.modeFields (s : State) : List ReplyLine :=
  [.field "MODE" (.word s.ctl.mode.word),
   .field "START" (.word (match s.ctl.start with | .cold => "COLD" | .warm => "WARM")),
   .field "STEP" (numOr s.ctl.step),
   .field "STATION" (.num s.ctl.strap),
   .field "PATH B" (.word (if s.ctl.pben then "ENABLED" else "DISABLED")),
   .field "STATUS CODE" (.num s.statusOut),
   .field "ALARM" (assertedWord s.alarmOut),
   .field "PROT READY" (assertedWord s.protReadyOut),
   .field "TRIP" (assertedWord s.tripLineOut),
   .field "ALARMS" s.alarmSet.val]

/-- The index authority as a value (R21). -/
def Authority.val : Authority → Val
  | .none => .word "NONE"
  | .self => .word "SELF"
  | .peer n => .num n.num

/-- The drift measurement state of the record SYNC: IDLE, or COUNTING with the marks counted (R33, R202; assumption
log 18). -/
def Drift.fields : Drift → List ReplyLine
  | .idle => [.field "DRIFT" (.word "IDLE")]
  | .counting _ m => [.field "DRIFT" (.word "COUNTING"), .field "MARKS" (.num m)]

/-- The SYNC record. -/
def State.syncFields (s : State) : List ReplyLine :=
  let c := s.clock
  [.field "SYNC STATE" (.word c.sync.word),
   .field "INDEX" (.num c.index),
   .field "AUTHORITY" c.authority.val,
   .field "TRIM" (.num c.trim),
   .field "SLEW" (.num c.slew),
   .field "STEP PENDING" (yesNo c.stepPending),
   .field "LOCK PROGRESS" (.num c.lockProgress),
   .field "EXCURSION RUN" (.num c.excursion),
   .field "MISFIT RUN" (.num c.misfit),
   .field "ACQUIRING ELAPSED" (.num c.acquiringElapsed),
   .field "HOLDOVER ELAPSED" (.num c.holdoverElapsed),
   .field "UNLOCKED RUN" (.num c.unlockedRun),
   .field "PPS QUALIFIED" (yesNo c.qualified),
   .field "VALID RUN" (.num c.validRun)]
  ++ c.drift.fields
  ++ [.field "LAST DRIFT" (numOr c.lastDrift), .field "SYNC LOSS" (raised c.syncLoss)]

/-- The loopback result (R54). -/
def loopbackVal : Option Bool → Val
  | none => .word "NOT RUN"
  | some true => .word "PASSED"
  | some false => .word "FAILED"

/-- The PATH record. -/
def PathCtl.fields (p : PathCtl) : List ReplyLine :=
  [.field "STATE" (.word p.state.word),
   .field "HEALTH" (.num p.health),
   .field "LINE" (.word (if p.line then "HIGH" else "LOW")),
   .field "LOOPBACK" (loopbackVal p.loopback)]

/-- The set of stations of a mask, bit n - 1 for station n (R63, R202). -/
def maskVal (m : BitVec 24) : Val := .nums ((stations.filter fun n => m.getLsbD n.val).map fun n => Station.num n)

/-- The last STATUS of an entry (R65). -/
def statusFields : Option StatusRec → List ReplyLine
  | none => [.field "LAST STATUS" (.word "ABSENT")]
  | some r =>
    [.field "LAST STATUS" (.num r.index),
     .field "STATUS SYNC" (.word r.sync.word),
     .field "STATUS PROTECTION" (.word r.prot.word),
     .field "STATUS LIVE MASK" (maskVal r.liveMask),
     .field "STATUS AUTHORITY" (.num r.authority),
     .field "STATUS HEALTH A" (.num r.healthA),
     .field "STATUS HEALTH B" (.num r.healthB),
     .field "STATUS PATH" (.word (match r.path with | .a => "A" | .b => "B")),
     .field "STATUS TICK" (.num r.tick.toNat),
     .field "STATUS AGREEMENT" (yesNo r.agrees)]

/-- The fields of a roster entry (R56). -/
def Entry.fields (e : Entry) : List ReplyLine :=
  [.field "STATE" (.word e.state.word),
   .field "FRAME SEEN" (yesNo e.frameSeen),
   .field "GOOD RUN" (.num e.good),
   .field "MISSED RUN" (.num e.missed),
   .field "SIGNATURE" (match e.sig with | some v => .hex 4 v.toNat | none => .word "NONE")]
  ++ descFields e.desc ++ statusFields e.lastStatus
  ++ [.field "LAST QUERY" (numOr e.lastQuery),
      .field "QUERY SEEN" (yesNo e.querySeen),
      .field "STATUS SEEN" (yesNo e.statusSeen),
      .field "LATE" (.num e.late),
      .field "EARLY" (.num e.early),
      .field "DUP" (.num e.dup),
      .field "SUBST" (.num e.subst),
      .field "VIEW RUN" (.num e.viewRun)]

/-- The replica's fields of a station (R113). -/
def Known.fields (kn : Known) : List ReplyLine :=
  (match kn.desc with
    | none => [.field "DESCRIPTION" (.word "UNKNOWN")]
    | some d =>
      [.field "DESCRIPTION" (.word d.kind.word), .field "SIDE X" (.num (zoneNum d.zx)), .field "SIDE Y" (.num (zoneNum d.zy))])
  ++ [.field "CONFIRMED X" (confWord kn.conf.x),
      .field "CONFIRMED Y" (confWord kn.conf.y),
      .field "CONFIRMED BREAKER" (confWord kn.conf.breaker)]
  ++ (if kn.isTie then [.field "OPEN-RUN" (numOr kn.openRun)] else [])

/-- The previous carried request (R157). -/
def Carried.val : Carried → Val
  | .unusable => .word "UNUSABLE"
  | .absent => .word "ABSENT"
  | .zones z => zoneVal z

/-- The roster's fields that belong to no entry and stand in no alarm set (R70). -/
def Roster.fields (r : Roster) : List ReplyLine :=
  [.field "CONFLICT HEARD" (yesNo r.conflictHeard), .field "CONFLICT-FREE RUN" (.num r.conflictFree)]

/-- The ROSTER record of a station, with the fields of R70 at its end (R56, R70, R113, R160; assumption log
18). -/
def State.rosterFields (s : State) (n : Station) : List ReplyLine :=
  (s.entry n).fields ++ (s.replica.known.get n).fields
  ++ [.field "CONFIRMED REQUEST" (zoneValOr (s.trip.confirmed.get n)),
      .field "PREVIOUS REQUEST" (s.trip.carried.get n).val]
  ++ s.roster.fields

/-- The block reasons of a slot (R134). -/
def Diff.reasons (d : Diff) (t : Slot) : Val :=
  wordsIf [(t.missing, "MISSING"), (t.notLive, "NOT-LIVE"), (t.unknown, "UNKNOWN"), (d.ownSync, "OWN-SYNC"),
    (d.conflict, "CONFLICT"), (d.fault, "FAULT")]

/-- The window and flag fields of a slot (R141). -/
def Diff.slotFields (d : Diff) (t : Slot) : List ReplyLine :=
  [.field "FILL" (.num t.fill), .field "INCOMPLETE" (.num t.incomplete)]
  ++ phaseFields "D L1" "D L2" "D L3" t.sumD ++ phaseFields "S L1" "S L2" "S L3" t.sumS
  ++ [.field "COUNTER" (.num t.counter),
      .field "DROP-OFF RUN" (.num t.dropOff),
      .field "OPERATE" (yesNo t.operate),
      .field "PHASES" (phaseSet t.phases),
      .field "REASONS" (d.reasons t)]

/-- The GROUP record of a group name (R113, R141). -/
def State.groupFields (s : State) (g : Zone) : List ReplyLine :=
  let m := s.replica.membership
  let l := s.diff.latches.get g
  [.field "IN USE" (yesNo (m.inUse g)),
   .field "ZONES" (zoneVal (m.zonesOf g)),
   .field "MEMBERS" (.members (m.members.get g)),
   .field "FORMER" (zoneVal (s.replica.former.get g)),
   .field "UNKNOWN" (yesNo (s.replica.requests.unknown.get g)),
   .field "NOT-LIVE" (yesNo (s.replica.requests.notLive.get g))]
  ++ s.diff.slotFields (s.diff.groups.get g)
  ++ [.field "EVIDENCE RUN" (.num l.evidence), .field "LATCHED" (yesNo l.latched), .field "HOLD" (.num l.hold)]

/-- The CHECK record (R113, R141). -/
def State.checkFields (s : State) : List ReplyLine :=
  [.field "MEMBERS" (.members s.replica.membership.checkMembers),
   .field "UNKNOWN" (yesNo s.replica.requests.checkUnknown),
   .field "NOT-LIVE" (yesNo s.replica.requests.checkNotLive)]
  ++ s.diff.slotFields s.diff.check

/-- The lines of a trip record (R150). -/
def TripRecord.fields (r : TripRecord) : List ReplyLine :=
  [.field "RECORD TEST" (yesNo r.test),
   .field "RECORD INDEX" (.num r.index),
   .field "RECORD CAUSES" (causesVal r.causes),
   .field "RECORD REPORTED" (.word r.reported.word),
   .field "RECORD GROUP" (numOr (r.group.map fun g => g.val + 1)),
   .field "RECORD PHASES" (phaseSet r.groupPhases),
   .field "RECORD CHECK" (phaseSet r.checkPhases),
   .field "RECORD STATION" (.num r.requester),
   .field "RECORD BF" (.word r.bf.word)]

/-- The lines of the peers whose confirmed request is present (R160). -/
def State.requestFields (s : State) : List ReplyLine :=
  (stations.filter fun n => s.isPeer n && (s.trip.confirmed.get n).isSome).flatMap fun n =>
    [.field "REQUEST OF" (.num (Station.num n)), .field "REQUEST ZONES" (zoneValOr (s.trip.confirmed.get n))]

/-- The trip record within the TRIP record: its fields, or one field that says it is ABSENT (R150, R202;
assumption log 18). -/
def tripRecordFields : Option TripRecord → List ReplyLine
  | some r => r.fields
  | none => [.field "TRIP RECORD" (.word "ABSENT")]

/-- The TRIP record (R160). -/
def State.tripFields (s : State) : List ReplyLine :=
  let t := s.trip
  [.field "TRIP" (assertedWord t.output),
   .field "TEST TRIP" (assertedWord t.testTrip),
   .field "MINIMUM TIME" (.num t.minTime),
   .field "CAUSES" (causesVal t.causes),
   .field "DEMAND" (yesNo t.demand),
   .field "TRIP STATE" (.word t.state.word)]
  ++ tripRecordFields t.record
  ++ phaseFields "SUM L1" "SUM L2" "SUM L3" t.ownSums
  ++ [.field "SUMS KNOWN" (yesNo t.sumsKnown),
      .field "BF" (.word t.bf.word),
      .field "BF TIMER" (.num t.bfTimer),
      .field "BF REQUEST" (zoneValOr t.bfRequest)]
  ++ s.requestFields

/-- Name of a slot of the Differential Unit. -/
def slotVal : SlotName → Val
  | .group g => .num (g.val + 1)
  | .check => .word "CHECK"

/-- The lines of a fault's code, reporting block and detail (R165, R166, R169). -/
def FaultReport.fields (f : FaultReport) : List ReplyLine :=
  [.field "CODE" (.word f.code.word), .field "BLOCK" (.word f.reporter.word)]
  ++ match f.detail with
    | .datapath mask phase cs cr sums =>
      [.field "MASK" (.num mask), .field "PHASE" (.word phase.word), .field "CHECKER SIGMA" (.num cs),
       .field "CHECKER S" (.num cr), .field "SIGMA" (.num sums.sigma), .field "D" (.num sums.d), .field "S" (.num sums.s)]
    | .slot k n hist =>
      [.field "SET" (.num k), .field "STATION" (.num n.num), .field "PLACE" (.word (if hist then "HISTORY" else "OPEN"))]
    | .ring name k => [.field "SLOT" (slotVal name), .field "SET" (.num k)]
    | .faultRecord => [.field "DETAIL" (.word "FAULT RECORD")]

/-- The FAULT record (09, 9.5). -/
def FaultRecord.fields (r : FaultRecord) : List ReplyLine :=
  r.report.fields
  ++ [.field "INDEX" (.num r.index), .field "MODE" (.word r.mode.word), .field "REPEATS" (.num r.repeats),
      .field "ACKNOWLEDGED" (yesNo r.acknowledged)]

/-- The failed step of a halt code (R172). -/
def HaltCode.failedStep : HaltCode → Option Nat
  | .selftest n => some n
  | .stop => none
  | .doubleFault => none
  | .configCorrupt => none

/-- The HALT record (R172). -/
def HaltRecord.fields (r : HaltRecord) : List ReplyLine :=
  [.field "HALT CODE" (.word r.code.word),
   .field "INDEX" (numOr r.index),
   .field "MODE BEFORE" (.word r.modeBefore.word)]
  ++ (match r.second with
    | none => [.field "SECOND FAULT" (.word "NONE")]
    | some f => .field "SECOND FAULT" (.word "PRESENT") :: f.fields)
  ++ [.field "FAILED STEP" (numOr r.code.failedStep)]

/-- Stored bytes, 16 per line, each line headed by its first offset (R202). -/
def bytesLines : Nat → Nat → List Byte → List ReplyLine
  | 0, _, _ => []
  | fuel + 1, off, bs => if bs.isEmpty then [] else .bytes off (bs.take 16) :: bytesLines fuel (off + 16) (bs.drop 16)

/-- The CONFIG record (R202). -/
def State.configFields (s : State) : List ReplyLine :=
  match s.ctl.block with
  | none => [.field "STORE" (.word s.ctl.store.word), .noBlock]
  | some b =>
    [.field "STORE" (.word s.ctl.store.word),
     .field "SIGNATURE" (match s.ctl.signature with | some v => .hex 4 v.toNat | none => .word "NONE")]
    ++ bytesLines b.length 0 b

/-- The COUNTS record (R202). -/
def State.countsFields (s : State) : List ReplyLine :=
  let a := s.link.paths.a
  let b := s.link.paths.b
  [.field "FCS A" (.num a.fcs), .field "MALFORMED A" (.num a.malformed), .field "FOREIGN A" (.num a.foreign),
   .field "FCS B" (.num b.fcs), .field "MALFORMED B" (.num b.malformed), .field "FOREIGN B" (.num b.foreign),
   .field "DRIFT REJECTS" (.num s.clock.driftRejects),
   .field "INVERT MASK" (.num s.sup.invertMask),
   .field "RECHECK" (.num s.sup.recheck),
   .field "HISTORY" (.num s.asm.history.length),
   .field "OPEN SETS" (.nums (s.asm.openSets.map OpenSet.index))]

/-- The lines of a record, ABSENT when it is absent (R202). The TRIP record is absent while the Trip Unit
stands as a cold reset leaves it; from then on the fields of R160 are shown, and the trip record among them is
ABSENT until it is written (R143, R147, R160; assumption log 18). The fields that R202 lists in no record are
shown nowhere (R1, R70; assumption log 18). -/
def State.recordLines (s : State) (r : Rec) : List ReplyLine :=
  match r with
  | .mode => s.modeFields
  | .sync => s.syncFields
  | .path p => (s.link.paths.get p).fields
  | .roster n => s.rosterFields n
  | .group g => s.groupFields g
  | .check => s.checkFields
  | .trip => if s.trip = Trip.cold then [.absent] else s.tripFields
  | .fault => match s.sup.fault with | some f => f.fields | none => [.absent]
  | .halt => match s.sup.halt with | some h => h.fields | none => [.absent]
  | .config => s.configFields
  | .counts => s.countsFields

/-- The reply that shows a record, copied at this moment (R202). -/
def State.showRecord (s : State) (r : Rec) : List ReplyLine := .name r :: (s.recordLines r ++ [.ok])

/-! ## The text of a reply (R196, R202) -/

/-- A hexadecimal digit. -/
def hexDigit (n : Nat) : Char := if n < 10 then Char.ofNat (48 + n) else Char.ofNat (55 + n)

/-- `d` hexadecimal digits of a number. -/
def hexText (d v : Nat) : String := String.ofList ((List.range d).reverse.map fun i => hexDigit (v / 16 ^ i % 16))

/-- Texts separated by commas, or NONE (R202). -/
def commaText (l : List String) : String := if l.isEmpty then "NONE" else ",".intercalate l

/-- The text of a value (R202). -/
def Val.text : Val → String
  | .num v => toString v
  | .word w => w
  | .hex d v => hexText d v ++ "h"
  | .nums vs => commaText (vs.map toString)
  | .words ws => commaText ws
  | .members ms => commaText (ms.map fun m => toString m.station.num ++ (if m.plus then "+" else "-"))

/-- The text of a record's name and index (R202). -/
def Rec.text : Rec → String
  | .mode => "MODE"
  | .sync => "SYNC"
  | .path .a => "PATH A"
  | .path .b => "PATH B"
  | .roster n => "ROSTER " ++ toString n.num
  | .group g => "GROUP " ++ toString (g.val + 1)
  | .check => "CHECK"
  | .trip => "TRIP"
  | .fault => "FAULT"
  | .halt => "HALT"
  | .config => "CONFIG"
  | .counts => "COUNTS"

/-- The text of an error line (11.1). -/
def ErrLine.text : ErrLine → String
  | .illCmd => "?01 ILL CMD"
  | .mode => "?02 MODE"
  | .count => "?03 COUNT"
  | .chksm => "?04 CHKSM"
  | .tmout => "?05 TMOUT"
  | .long => "?06 LONG"
  | .illRec => "?07 ILL REC"
  | .illIdx => "?08 ILL IDX"
  | .busy => "?09 BUSY"
  | .field n => "?10 FIELD " ++ toString (n / 10) ++ toString (n % 10)

/-- The text of a reply line, without its CR LF (R196, R202). -/
def ReplyLine.text : ReplyLine → String
  | .name r => r.text
  | .field l v => l ++ " " ++ v.text
  | .bytes off bs => toString off ++ " " ++ " ".intercalate (bs.map fun b => hexText 2 b.toNat ++ "h")
  | .absent => "ABSENT"
  | .noBlock => "NONE"
  | .prompt => ">"
  | .ok => "OK"
  | .error e => e.text

end Sys2Proof.Machine
end

