-- ==== Sys2Proof/Machine/Service.lean ====
section
/-! DEFINITION. The Service Line Interface (11): characters and lines, interpretation and replies, LOAD, the
validation of the block and the mode commands, and the rows of the table that a character, a line's CR, a
timer or the end of a reply is. -/

namespace Sys2Proof.Machine

/-! ## Replies (R196) -/

/-- A reply starts: the interface is in REPLYING; lines of a reply still being sent go first (R196). -/
def State.reply (s : State) (lines : List ReplyLine) : State :=
  { s with svc := { s.svc with iface := .replying, reply := s.svc.reply ++ lines } }

/-- Reply OK. -/
def State.replyOk (s : State) : State := s.reply [.ok]

/-- Reply with an error line. -/
def State.replyError (s : State) (e : ErrLine) : State := s.reply [.error e]

/-! ## Validation (R188) -/

/-- A value lies in a range. -/
def within (lo hi v : Nat) : Bool := lo ≤ v && v ≤ hi

/-- The fields of the table up to offset 21, each with whether it is accepted (10.4, R188). -/
def schemeChecks (b : List Byte) (own : Option Station) : List (Nat × Bool) :=
  [(0, byteAt b 0 == 1),
   (2, byteAt b 2 == 50 || byteAt b 2 == 60),
   (3, within 0 1 (byteAt b 3)),
   (4, match own with
     | some n => bitOf (u24At b 4) n.val
     | none => false),
   (7, within 1 8 (byteAt b 7)),
   (8, within 103 4096 (u16At b 8)),
   (10, within 8 60 (byteAt b 10)),
   (11, within (byteAt b 10) 63 (byteAt b 11)),
   (12, within 8 60 (byteAt b 12)),
   (13, within 1 6 (byteAt b 13)),
   (14, within 512 16384 (u16At b 14)),
   (16, within 48 2400 (u16At b 16)),
   (18, byteAt b 18 == 1 || byteAt b 18 == 2),
   (19, within 0 4 (byteAt b 19)),
   (20, (descOf (byteAt b 18) (byteAt b 19) (byteAt b 20)).isSome),
   (21, within 0 48 (byteAt b 21))]

/-- The fields of the table from offset 22, each with whether it is accepted (10.4, R188). -/
def stationChecks (b : List Byte) : List (Nat × Bool) :=
  [(22, within 1 65535 (u16At b 22)),
   (24, within 1 65535 (u16At b 24)),
   (26, within 1 65535 (u16At b 26)),
   (30, decide (signed16 (u16At b 28) < signed16 (u16At b 30))),
   (32, within 240 48000 (u16At b 32)),
   (34, within 24 2400 (u16At b 34)),
   (36, within 48 720 (u16At b 36)),
   (38, within 51 2048 (u16At b 38)),
   (40, within 120 1200 (u16At b 40)),
   (42, within 0 1 (byteAt b 42)),
   (43, within 1 60 (byteAt b 43)),
   (44, within 0 48000 (u16At b 44) && decide (u16At b 44 < byteAt b 13 * 10000)),
   (46, decide (0x0600 ≤ u16At b 46)),
   (48, bitOf (byteAt b 48) 0),
   (54, within 1 16 (byteAt b 54)),
   (55, within 4 32 (byteAt b 55)),
   (56, blockCrcGood b)]

/-- The offset of the first field that fails; none when the block is accepted (R188). -/
def firstBad (b : List Byte) (own : Option Station) : Option Nat :=
  ((schemeChecks b own ++ stationChecks b).find? fun c => !c.2).map Prod.fst

/-- The validation of the store: an EMPTY one fails at offset 0 (R188). -/
def State.invalidAt (s : State) : Option Nat :=
  if s.ctl.store = .empty then some 0 else firstBad s.blockBytes s.own

/-! ## The commands (R171, R180, R189, R191, R192, R199, R200) -/

/-- COMMIT: validation, then the store is COMMITTED and RUN is entered (R189, R199). -/
def State.doCommit (s : State) : State :=
  match s.invalidAt with
  | some off => s.replyError (.field off)
  | none => (State.enterRun { s with ctl := { s.ctl with store := .committed } }).replyOk

/-- TEST: validation, then TEST is entered (R191, R199). -/
def State.doTest (s : State) : State :=
  match s.invalidAt with
  | some off => s.replyError (.field off)
  | none => s.enterTest.replyOk

/-- STOP: BUSY while TRIP is reported asserted, else HALTED (R160, R180, R199). -/
def State.doStop (s : State) : State := if s.ctl.tripReported then s.replyError .busy else (s.halt .stop none).replyOk

/-- WARM: OK, after which the warm reset is handed on (R200). -/
def State.doWarm (s : State) : State :=
  let t := s.replyOk
  { t with svc := { t.svc with warmWaits := true } }

/-- EXAMINE with the words after its name (R201, R202). -/
def State.doExamine (s : State) (ws : List (List Byte)) : State :=
  match ask s.svc.cursor ws with
  | .error e => s.replyError e
  | .record r =>
    let t := s.reply (s.showRecord r)
    { t with svc := { t.svc with cursor := some r } }

/-- The command is taken in a mode (R195). -/
def Command.taken (c : Command) (m : Mode) : Bool :=
  match c with
  | .load => m == .config
  | .commit => m == .config
  | .test => m == .config
  | .endtest => m == .test
  | .stop => m == .run
  | .ack => m == .config || m == .test || m == .run
  | .warm => m != .selftest
  | .examine => m != .selftest

/-- A command that is taken is carried out; a LOAD line never reaches this row (R195, R197, R199). -/
def State.carryOut (s : State) (c : Command) (rest : List (List Byte)) : State :=
  match c with
  | .load => s
  | .commit => s.doCommit
  | .test => s.doTest
  | .endtest => s.enterConfig.replyOk
  | .stop => s.doStop
  | .warm => s.doWarm
  | .ack => s.acknowledge.replyOk
  | .examine => s.doExamine rest

/-- A LOAD line takes the interface to LOAD-SUM with the timer at 0 (R197). The 2 s of a held line are counted from
here, its interpretation (assumption log 43). -/
def State.awaitSum (s : State) (l : Line) : State :=
  { s with svc := { s.svc with iface := .loadSum, loadLine := l.buf ++ [crChar], timer := 0 } }

/-- The rows of R195 after the mode SELFTEST. -/
def State.runCommand (s : State) (c : Option Command) (rest : List (List Byte)) : State :=
  match c with
  | none => s.replyError .illCmd
  | some c =>
    if commandRow c rest = .illCmd then s.replyError .illCmd
    else if !c.taken s.ctl.mode then s.replyError .mode
    else s.carryOut c rest

/-- The interpretation of a line that holds a word (R195). -/
def State.interpret (s : State) (l : Line) : State :=
  match wordsOf l.buf with
  | [] => s
  | w :: rest =>
    if l.long then s.replyError .long
    else if l.framing then s.replyError .illCmd
    else if commandOf w = some .load then s.awaitSum l
    else if s.ctl.mode = .selftest then s.replyError .busy
    else s.runCommand (commandOf w) rest

/-! ## The time of a transfer (R197, R198) -/

/-- The time allowed for the next byte of a transfer: 2 s for the first data byte and for the checksum,
100 ms for each later data byte (R198). -/
def Service.allowance (v : Service) : Nat :=
  if v.iface = .loadData ∧ v.count ≠ 0 then Config.hundredMs else Config.twoSeconds

/-- A LOAD ends by timeout: ?05 TMOUT from COLLECTING, where bytes form a new line (R197, R198; assumption
log 23). -/
def State.timeOut (s : State) : State :=
  let t := s.replyError .tmout
  { t with svc := { t.svc with iface := .collecting } }

/-- The next byte of a transfer is overdue: the time allowed for it has passed (R197, R198). -/
def Service.overdue (v : Service) : Bool := v.timerRuns && decide (v.allowance < v.timer)

/-- A transfer whose next byte is overdue has ended before what comes now (R197, R198). -/
def State.lateLoad (s : State) : State := if s.svc.overdue && !s.resetHeld then s.timeOut else s

/-! ## Characters and lines (R194 to R196) -/

/-- A character other than CR is taken into the line being received (R194). -/
def Line.take (l : Line) (b : Byte) (framing : Bool) : Line :=
  if framing then { l with framing := true }
  else if b = lfByte then l
  else if l.buf.length < Config.lineCap then { l with buf := l.buf ++ [b] }
  else { l with long := true }

/-- Characters taken in order. -/
def Line.takeAll (l : Line) (bs : List Byte) : Line := bs.foldl (fun l b => l.take b false) l

/-- Characters are taken into a line: in COLLECTING, and in REPLYING until a line is held; none while a
reset holds the station (R194, R196, R203). -/
def State.collects (s : State) : Bool :=
  !s.resetHeld && (s.svc.iface == .collecting || (s.svc.iface == .replying && s.svc.held.isNone))

/-- The line that a CR ends after further characters; a framing error of the CR sets the flag (R194). -/
def State.lineEnded (s : State) (chars : List Byte) (framing : Bool) : Line :=
  let l := s.svc.line.takeAll chars
  { l with framing := l.framing || framing }

/-- The buffer and the flags are cleared (R194). -/
def State.clearLine (s : State) : State := { s with svc := { s.svc with line := Line.clear } }

/-- A line that holds a word is interpreted, or held while a reply is being sent (R195, R196). -/
def State.endLine (s : State) (l : Line) : State :=
  let t := s.clearLine
  if s.svc.iface = .replying then { t with svc := { t.svc with held := some l } } else t.interpret l

/-- A CR after these characters, when the line it ends is of this row of the table; the row is not the
event otherwise, and nothing happens (assumption logs 1 and 19). -/
def State.lineCommand (s : State) (row : LineRow) (chars : List Byte) (framing : Bool) : State :=
  let t := s.lateLoad
  let l := t.lineEnded chars framing
  if t.collects && lineRow l == row then t.endLine l else t

/-- LINE_DROPPED (R194): a line without a word is dropped with no reply. -/
def execLineDropped (chars : List Byte) (s : State) : Host.Outcome State Fault Refusal :=
  answer <|
    let t := s.lateLoad
    if t.collects && lineRow (t.lineEnded chars false) == .dropped then t.clearLine else t

/-- ILL_CMD (R195): a line with a long or framing flag, with an unknown name, or with a word its command
does not take. -/
def execIllCmd (chars : List Byte) (framing : Bool) (s : State) : Host.Outcome State Fault Refusal :=
  answer (s.lineCommand .illCmd chars framing)

/-- LOAD (R197): the CR of a LOAD line. -/
def execLoad (chars : List Byte) (s : State) : Host.Outcome State Fault Refusal :=
  answer (s.lineCommand .load chars false)

/-- COMMIT (R189, R199): the CR of a COMMIT line. -/
def execCommit (chars : List Byte) (s : State) : Host.Outcome State Fault Refusal :=
  answer (s.lineCommand .commit chars false)

/-- TEST (R191, R199): the CR of a TEST line. -/
def execTest (chars : List Byte) (s : State) : Host.Outcome State Fault Refusal :=
  answer (s.lineCommand .test chars false)

/-- ENDTEST (R192, R199): the CR of an ENDTEST line. -/
def execEndtest (chars : List Byte) (s : State) : Host.Outcome State Fault Refusal :=
  answer (s.lineCommand .endtest chars false)

/-- STOP (R180, R199): the CR of a STOP line. -/
def execStop (chars : List Byte) (s : State) : Host.Outcome State Fault Refusal :=
  answer (s.lineCommand .stop chars false)

/-- WARM (R200): the CR of a WARM line. -/
def execWarm (chars : List Byte) (s : State) : Host.Outcome State Fault Refusal :=
  answer (s.lineCommand .warm chars false)

/-- ACK (R171, R199): the CR of an ACK line. -/
def execAck (chars : List Byte) (s : State) : Host.Outcome State Fault Refusal :=
  answer (s.lineCommand .ack chars false)

/-- EXAMINE (R201, R202): the CR of an EXAMINE line that names a record. -/
def execExamine (chars : List Byte) (s : State) : Host.Outcome State Fault Refusal :=
  answer (s.lineCommand .examine chars false)

/-- EXAMINE_NEXT (R201): the CR of an EXAMINE + line or of a bare EXAMINE. -/
def execExamineNext (chars : List Byte) (s : State) : Host.Outcome State Fault Refusal :=
  answer (s.lineCommand .examineNext chars false)

/-- EXAMINE_AGAIN (R201): the CR of an EXAMINE * line. -/
def execExamineAgain (chars : List Byte) (s : State) : Host.Outcome State Fault Refusal :=
  answer (s.lineCommand .examineAgain chars false)

/-- A character other than CR is taken into the line being received (R194). -/
def State.takeChar (s : State) (byte : Byte) (framing : Bool) : State :=
  { s with svc := { s.svc with line := s.svc.line.take byte framing } }

/-- CHARACTER_RECEIVED (R194, R196): a character other than CR. -/
def execCharacterReceived (byte : Byte) (framing : Bool) (s : State) : Host.Outcome State Fault Refusal :=
  answer <|
    let t := s.lateLoad
    if t.collects && byte != crChar then t.takeChar byte framing else t

/-- A byte that comes after the end of a LOAD by timeout forms a new line, which a CR ends (R194, R197, R198). -/
def State.lateByte (s : State) (byte : Byte) (framing : Bool) : State :=
  if byte = crChar then
    let l := s.lineEnded [] framing
    if lineRow l = .dropped then s.clearLine else s.endLine l
  else s.takeChar byte framing

/-! ## The end of a reply (R196, R200) -/

/-- The reply has been sent: a WARM takes its reset, else a held line is interpreted (R179, R196, R200). -/
def State.endReply (s : State) : State :=
  if s.svc.warmWaits then s.warmValues
  else
    let t := { s with svc := { s.svc with iface := .collecting, reply := [], held := none } }
    match s.svc.held with
    | none => t
    | some l => t.interpret l

/-- REPLY_END (R196, R200): the last character of the reply is sent. A reply that a LOAD timeout left in
COLLECTING ends there (R198). -/
def execReplyEnd (s : State) : Host.Outcome State Fault Refusal :=
  answer <|
    if s.resetHeld then s
    else if s.svc.iface = .replying then s.endReply
    else { s with svc := { s.svc with reply := [] } }

/-! ## LOAD (R197, R198) -/

/-- Sum of the bytes of a line or transfer, modulo 256 (11.2). -/
def sum256 (bs : List Byte) : Nat := (bs.map BitVec.toNat).sum % 256

/-- The count of a line of exactly LOAD and one decimal number of 1 to 5 digits (R197). -/
def loadCount (line : List Byte) : Option Nat :=
  match wordsOf line.dropLast with
  | [_, w] => if w.length ≤ 5 then decimalOf w else none
  | _ => none

/-- The data phase begins: the store becomes EMPTY and the prompt line is sent (R187, R198). -/
def State.beginData (s : State) : State :=
  { s with
    ctl := { s.ctl with store := .empty, block := none, signature := none }
    svc := { s.svc with
      iface := .loadData, count := 0, sum := 0, tframing := false, timer := 0, promptBusy := true, data := [],
      reply := s.svc.reply ++ [.prompt] } }

/-- The rows of R197 when the checksum byte arrives. -/
def State.judgeLoad (s : State) (byte : Byte) (framing : Bool) : State :=
  if s.ctl.mode = .selftest then s.replyError .busy
  else if framing then s.replyError .chksm
  else if s.ctl.mode ≠ .config then s.replyError .mode
  else if sum256 (s.svc.loadLine ++ [byte]) ≠ 0 then s.replyError .chksm
  else if loadCount s.svc.loadLine ≠ some Config.blockSize then s.replyError .count
  else s.beginData

/-- The interface is in a state and no reset holds the station. -/
def State.ifaceIs (s : State) (i : IfState) : Bool := s.svc.iface == i && !s.resetHeld

/-- A byte in one of the LOAD states: overdue it belongs to a new line, else `f` takes it (R197, R198). -/
def State.loadByte (s : State) (i : IfState) (byte : Byte) (framing : Bool) (f : State → State) : State :=
  if !s.ifaceIs i then s else if s.svc.overdue then s.timeOut.lateByte byte framing else f s

/-- LOAD_CHECKSUM_BYTE (R197): the byte after the CR of a LOAD line. -/
def execLoadChecksumByte (byte : Byte) (framing : Bool) (s : State) : Host.Outcome State Fault Refusal :=
  answer (s.loadByte .loadSum byte framing fun t => t.judgeLoad byte framing)

/-- The ticks that are missing to the end of the time allowed pass, and the transfer ends, unless a sample
instant comes first (R197, R198; assumption log 3). -/
def State.loadTimeout (s : State) : State :=
  let t := s.settleDue
  let n := t.svc.allowance - t.svc.timer
  if t.passes n then (t.pass n).timeOut else t

/-- LOAD_SUM_TIMEOUT (R197): 2 s have passed after the CR without a checksum byte. -/
def execLoadSumTimeout (s : State) : Host.Outcome State Fault Refusal :=
  answer <| if s.ifaceIs .loadSum then s.loadTimeout else s

/-- A data byte is stored and counted; the 58th takes the interface to LOAD-END (R198). -/
def Service.takeData (v : Service) (byte : Byte) (framing : Bool) : Service :=
  { v with
    data := v.data ++ [byte]
    count := v.count + 1
    sum := (v.sum + byte.toNat) % 256
    tframing := v.tframing || framing
    timer := 0
    iface := if Config.blockSize ≤ v.count + 1 then .loadEnd else .loadData }

/-- LOAD_DATA_BYTE (R198). -/
def execLoadDataByte (byte : Byte) (framing : Bool) (s : State) : Host.Outcome State Fault Refusal :=
  answer (s.loadByte .loadData byte framing fun t => { t with svc := t.svc.takeData byte framing })

/-- The end of a transfer at its data checksum (R187, R198). -/
def State.judgeData (s : State) (byte : Byte) (framing : Bool) : State :=
  if s.svc.tframing || framing then s.replyError .chksm
  else if (s.svc.sum + byte.toNat) % 256 ≠ 0 then s.replyError .chksm
  else (State.replyOk { s with ctl := { s.ctl with store := .loaded, block := some s.svc.data } })

/-- LOAD_DATA_CHECKSUM (R198). -/
def execLoadDataChecksum (byte : Byte) (framing : Bool) (s : State) : Host.Outcome State Fault Refusal :=
  answer (s.loadByte .loadEnd byte framing fun t => t.judgeData byte framing)

/-- LOAD_DATA_TIMEOUT (R198): a data byte or the data checksum is overdue. -/
def execLoadDataTimeout (s : State) : Host.Outcome State Fault Refusal :=
  answer <|
    if (s.ifaceIs .loadData || s.ifaceIs .loadEnd) && s.svc.timerRuns then s.loadTimeout else s

/-- PROMPT_LF_SENT (R198): the prompt line has been sent, and the transfer timer is set to 0. -/
def execPromptLfSent (s : State) : Host.Outcome State Fault Refusal :=
  answer <|
    let t := s.lateLoad
    if t.ifaceIs .loadData && t.svc.promptBusy then
      { t with svc := { t.svc with promptBusy := false, timer := 0, reply := [] } }
    else t

end Sys2Proof.Machine
end

