-- ==== Sys2Proof/Machine/Idle.lean ====
section
/-! DEFINITION. What falls due inside the block when no command waits (assumption log 2): the events that
the passage of MCLK ticks alone brings. -/

namespace Sys2Proof.Machine

/-- The row of a timed event. -/
def Timed.row : Timed → Instr
  | .adc => .adcTimeout
  | .pps => .ppsTimeout
  | .mark => .markMissing
  | .attempt => .conversionAttempt
  | .loop => .loopbackTimeout

/-- The row of the timed event that stands due (R2, R20, R22, R54, R185). -/
def State.dueTimed (s : State) : Option Instr := (Timed.all.find? fun e => s.ticksTo e == some 0).map Timed.row

/-- The event of RUN or TEST that stands due (R2, R17, R20, R22, R26, R80). -/
def State.dueWorking (s : State) : Option Instr :=
  if s.inRun && s.clock.sync == .acquiring && s.clock.stepDue.isSome then some .acquisitionStep
  else if s.headDue then some .setDeadline
  else match s.dueTimed with
    | some i => some i
    | none => if s.clock.remaining == 0 then some (.sampleInstant s.pins.contacts s.pins.blockIn) else none

/-- The timeout of the service line that stands due (R197, R198). -/
def State.dueService (s : State) : Option Instr :=
  match s.svc.iface with
  | .loadSum => if Config.twoSeconds ≤ s.svc.timer then some .loadSumTimeout else none
  | .loadData => if s.svc.timerRuns ∧ s.svc.allowance ≤ s.svc.timer then some .loadDataTimeout else none
  | .loadEnd => if s.svc.allowance ≤ s.svc.timer then some .loadDataTimeout else none
  | .collecting => none
  | .replying => none

/-- The event that stands due inside the block, none while a reset holds it (assumption log 2). -/
def State.dueCommand (s : State) : Option Instr :=
  if s.resetHeld then none else
  match s.ctl.mode with
  | .run => s.dueWorking.or s.dueService
  | .test => s.dueWorking.or s.dueService
  | .selftest => s.dueTimed.or s.dueService
  | .config => s.dueService
  | .halted => s.dueService

end Sys2Proof.Machine
end

