-- ==== Sys2Proof/Machine/Dispatch.lean ====
section
/-! DEFINITION. The meaning of every command: one arm per row of the opcode table. -/

namespace Sys2Proof.Machine

/-- The effect of a command on everything but the queue. -/
def exec (i : Instr) (s : State) : Host.Outcome State Fault Refusal :=
  match i with
  | .coldReset => Sys2Proof.Machine.execColdReset s
  | .porstRise stn pben => Sys2Proof.Machine.execPorstRise stn pben s
  | .warmReset => Sys2Proof.Machine.execWarmReset s
  | .wrstRise => Sys2Proof.Machine.execWrstRise s
  | .storageTest passed => Sys2Proof.Machine.execStorageTest passed s
  | .conversionAttempt => Sys2Proof.Machine.execConversionAttempt s
  | .loopbackReturn frame phyError => Sys2Proof.Machine.execLoopbackReturn frame phyError s
  | .loopbackTimeout => Sys2Proof.Machine.execLoopbackTimeout s
  | .mclkCheck count => Sys2Proof.Machine.execMclkCheck count s
  | .sampleInstant contacts blockIn => Sys2Proof.Machine.execSampleInstant contacts blockIn s
  | .travelExpiry d => Sys2Proof.Machine.execTravelExpiry d s
  | .drdyRise => Sys2Proof.Machine.execDrdyRise s
  | .adcTimeout => Sys2Proof.Machine.execAdcTimeout s
  | .readComplete bits => Sys2Proof.Machine.execReadComplete bits s
  | .ppsEdge => Sys2Proof.Machine.execPpsEdge s
  | .ppsTimeout => Sys2Proof.Machine.execPpsTimeout s
  | .markMissing => Sys2Proof.Machine.execMarkMissing s
  | .acquisitionStep => Sys2Proof.Machine.execAcquisitionStep s
  | .holdoverLimit => Sys2Proof.Machine.execHoldoverLimit s
  | .syncLoss => Sys2Proof.Machine.execSyncLoss s
  | .arrival p frame phyError => Sys2Proof.Machine.execArrival p frame phyError s
  | .transmitEnd p => Sys2Proof.Machine.execTransmitEnd p s
  | .linkUpFall p => Sys2Proof.Machine.execLinkUpFall p s
  | .linkUpRise p => Sys2Proof.Machine.execLinkUpRise p s
  | .conflictClear => Sys2Proof.Machine.execConflictClear s
  | .peerSilent n => Sys2Proof.Machine.execPeerSilent n s
  | .setDeadline => Sys2Proof.Machine.execSetDeadline s
  | .endOpen n => Sys2Proof.Machine.execEndOpen n s
  | .holdCounterExpiry g => Sys2Proof.Machine.execHoldCounterExpiry g s
  | .dropOffExpiry slot => Sys2Proof.Machine.execDropOffExpiry slot s
  | .bfTimerExpiry => Sys2Proof.Machine.execBfTimerExpiry s
  | .minimumTimeExpiry => Sys2Proof.Machine.execMinimumTimeExpiry s
  | .configRecheck => Sys2Proof.Machine.execConfigRecheck s
  | .lineDropped chars => Sys2Proof.Machine.execLineDropped chars s
  | .illCmd chars framing => Sys2Proof.Machine.execIllCmd chars framing s
  | .replyEnd => Sys2Proof.Machine.execReplyEnd s
  | .load chars => Sys2Proof.Machine.execLoad chars s
  | .loadChecksumByte byte framing => Sys2Proof.Machine.execLoadChecksumByte byte framing s
  | .loadSumTimeout => Sys2Proof.Machine.execLoadSumTimeout s
  | .loadDataByte byte framing => Sys2Proof.Machine.execLoadDataByte byte framing s
  | .loadDataChecksum byte framing => Sys2Proof.Machine.execLoadDataChecksum byte framing s
  | .loadDataTimeout => Sys2Proof.Machine.execLoadDataTimeout s
  | .commit chars => Sys2Proof.Machine.execCommit chars s
  | .test chars => Sys2Proof.Machine.execTest chars s
  | .endtest chars => Sys2Proof.Machine.execEndtest chars s
  | .stop chars => Sys2Proof.Machine.execStop chars s
  | .warm chars => Sys2Proof.Machine.execWarm chars s
  | .ack chars => Sys2Proof.Machine.execAck chars s
  | .examine chars => Sys2Proof.Machine.execExamine chars s
  | .examineNext chars => Sys2Proof.Machine.execExamineNext chars s
  | .examineAgain chars => Sys2Proof.Machine.execExamineAgain chars s
  | .characterReceived byte framing => Sys2Proof.Machine.execCharacterReceived byte framing s
  | .promptLfSent => Sys2Proof.Machine.execPromptLfSent s

end Sys2Proof.Machine
end

