-- ==== Sys2Proof/Safety.lean ====
section
/-! DEFINITION. What counts as safe: the properties of states that the claims are stated with. -/

namespace Sys2Proof.Machine

/-! ## Trips (R143, R160) -/

/-- TRIP stands asserted in RUN alone, the test trip in TEST alone, and the Mode Controller has the state
of TRIP as reported (R143, R160, R161). -/
def State.TripSafe (s : State) : Prop :=
  (s.trip.output = true → s.ctl.mode = .run) ∧ (s.trip.testTrip = true → s.ctl.mode = .test)
    ∧ s.ctl.tripReported = s.trip.output

/-! ## Blocking (R134) -/

/-- A BLOCKED slot is not in OPERATE (R134). -/
def Diff.BlockSafe (d : Diff) : Prop :=
  (∀ g : Zone, d.blocked (d.groups.get g) = true → (d.groups.get g).operate = false)
    ∧ (d.blocked d.check = true → d.check.operate = false)

/-! ## Windows (R120) -/

/-- In every phase of a term the differential does not exceed the restraint (R119). -/
def Term.Bounded (t : Term) : Prop := t.d.l1 ≤ t.s.l1 ∧ t.d.l2 ≤ t.s.l2 ∧ t.d.l3 ≤ t.s.l3

/-- A window's sums and counts equal the totals of the terms it holds, and D does not exceed S (R120). -/
def Slot.WindowSafe (t : Slot) : Prop :=
  (∀ e ∈ t.ring, e.Bounded) ∧ t.sumD = ringTotal Term.d t.ring ∧ t.sumS = ringTotal Term.s t.ring
    ∧ t.fill = t.ring.length ∧ t.incomplete = t.ring.countP Term.incomplete
    ∧ t.sumD.l1 ≤ t.sumS.l1 ∧ t.sumD.l2 ≤ t.sumS.l2 ∧ t.sumD.l3 ≤ t.sumS.l3

/-- Every window of the Differential Unit is safe (R120). -/
def Diff.WindowsSafe (d : Diff) : Prop := (∀ g : Zone, (d.groups.get g).WindowSafe) ∧ d.check.WindowSafe

/-! ## Paths (R52) -/

/-- The path state agrees with the link-up line and the health count (R52). -/
def PathCtl.Consistent (p : PathCtl) : Prop :=
  (p.state = .down ↔ p.line = false) ∧ p.health ≤ 255
    ∧ (p.state = .up → p.health ≤ 95) ∧ (p.state = .degraded → 96 ≤ p.health ∧ p.health ≤ 254)
    ∧ (p.state = .failed → 1 ≤ p.health)

/-! ## Clock (00_scope.md 4.2, R17, R33) -/

/-- The latest index lies in 0..47,999 and the trim in ±512 (00_scope.md 4.2, R33). -/
def Clock.InRange (c : Clock) : Prop := c.index < 48000 ∧ -512 ≤ c.trim ∧ c.trim ≤ 512

/-! ## Sound storage (R91, R125, R164, R167) -/

/-- No open slot has a parity error. -/
def OpenSet.sound (o : OpenSet) : Bool := stations.all fun n => !(o.slots.get n).parityBad

/-- No closed slot has a parity error. -/
def ClosedSet.sound (c : ClosedSet) : Bool := stations.all fun n => !(c.slots.get n).parityBad

/-- No window entry has a parity error. -/
def Slot.sound (t : Slot) : Bool := t.ring.all fun e => !e.parityBad

/-- Nothing that a closure reads or checks is damaged: no parity error in the open sets, the history and
the rings, no upset of the datapath, and a block that agrees with its CRC. -/
def State.sound (s : State) : Bool :=
  s.asm.openSets.all OpenSet.sound && s.asm.history.all ClosedSet.sound
    && zones.all (fun g => (s.diff.groups.get g).sound) && s.diff.check.sound
    && s.health.upsets.isEmpty && blockCrcGood s.blockBytes

/-! ## Undisturbed time (assumption logs 3 and 5) -/

/-- `n` ticks can pass before anything else: no acquisition step is due, no deadline is reached, and no sample
instant and no event of the block's own timers comes before their end. -/
def State.Undisturbed (s : State) (n : Nat) : Prop :=
  s.clock.stepDue = none ∧ s.headDue = false ∧ s.passes n = true ∧ ∀ e m, s.ticksTo e = some m → n ≤ m

/-! ## The rows that a CR is (R194, R195) -/

/-- The command of the row that a CR after these characters is. -/
def LineRow.command (r : LineRow) (chars : List Byte) (framing : Bool) : Instr :=
  match r with
  | .dropped => .lineDropped chars
  | .illCmd => .illCmd chars framing
  | .load => .load chars
  | .commit => .commit chars
  | .test => .test chars
  | .endtest => .endtest chars
  | .stop => .stop chars
  | .warm => .warm chars
  | .ack => .ack chars
  | .examine => .examine chars
  | .examineNext => .examineNext chars
  | .examineAgain => .examineAgain chars

/-! ## Entries to RUN and TEST -/

/-- On an entry to RUN or TEST from `s`, the own entry of the roster of `t` is LIVE with the signature and the own
description and no other station is known (R71), the replica knows the own description alone (R115), and the
Differential Unit has empty windows, no latch and no block reason but FAULT, which is kept (R142). -/
def State.StartsAfresh (s t : State) : Prop :=
  (∀ n, s.own = some n → t.entry n
      = { Entry.initial with state := .live, sig := t.ctl.signature, desc := some s.ownDesc, liveAtClosure := true })
    ∧ (∀ n, s.own ≠ some n → t.entry n = Entry.initial)
    ∧ t.roster = { Roster.initial with entries := t.roster.entries }
    ∧ (∀ n, s.own = some n → t.replica.known.get n = { Known.initial with desc := some s.ownDesc })
    ∧ (∀ n, s.own ≠ some n → t.replica.known.get n = Known.initial)
    ∧ t.replica = { Replica.initial with known := t.replica.known }
    ∧ t.diff = { Diff.initial with fault := s.diff.fault }

/-- On an entry to RUN a path that is FAILED stays FAILED with count 255, and any other is UP or DOWN by its
link-up line with count 0; its slots are empty and its counts and loopback result kept; QUERY is pending and STATUS
is not (R55). -/
def State.PathsEnterRun (s t : State) : Prop :=
  t.link.queryPending = true ∧ t.link.statusPending = false ∧ ∀ p,
    let q := s.link.paths.get p
    (q.state = .failed → t.link.paths.get p
        = { q with sampleSlot := none, otherSlot := none, sending := none, health := 255 })
    ∧ (q.state ≠ .failed → t.link.paths.get p
        = { q with
            sampleSlot := none, otherSlot := none, sending := none, health := 0
            state := if q.line then .up else .down })

/-! ## Frames -/

/-- The two states differ at most in the Service Line Interface and the outputs. -/
def State.OnlyService (s t : State) : Prop :=
  t.pending = s.pending ∧ t.pins = s.pins ∧ t.health = s.health ∧ t.bay = s.bay ∧ t.clock = s.clock
    ∧ t.link = s.link ∧ t.roster = s.roster ∧ t.asm = s.asm ∧ t.replica = s.replica ∧ t.diff = s.diff
    ∧ t.trip = s.trip ∧ t.sup = s.sup ∧ t.ctl = s.ctl

/-- The two states differ at most in the Sample Clock Unit and the outputs. -/
def State.OnlyClock (s t : State) : Prop :=
  t.pending = s.pending ∧ t.pins = s.pins ∧ t.health = s.health ∧ t.bay = s.bay ∧ t.link = s.link
    ∧ t.roster = s.roster ∧ t.asm = s.asm ∧ t.replica = s.replica ∧ t.diff = s.diff ∧ t.trip = s.trip
    ∧ t.sup = s.sup ∧ t.ctl = s.ctl ∧ t.svc = s.svc

/-- The two states differ at most in the Link Controller and the outputs. -/
def State.OnlyLink (s t : State) : Prop :=
  t.pending = s.pending ∧ t.pins = s.pins ∧ t.health = s.health ∧ t.bay = s.bay ∧ t.clock = s.clock
    ∧ t.roster = s.roster ∧ t.asm = s.asm ∧ t.replica = s.replica ∧ t.diff = s.diff ∧ t.trip = s.trip
    ∧ t.sup = s.sup ∧ t.ctl = s.ctl ∧ t.svc = s.svc

/-- The protection blocks stand as they were: roster, assembler, replica, Differential Unit, Trip Unit and
Supervision Unit. -/
def State.ProtectionKept (s t : State) : Prop :=
  t.roster = s.roster ∧ t.asm = s.asm ∧ t.replica = s.replica ∧ t.diff = s.diff ∧ t.trip = s.trip ∧ t.sup = s.sup

end Sys2Proof.Machine
end

