-- ==== Sys2Proof/Certificates/Slice0/Obligations.lean ====
section
/-! DEFINITION. The statements for the provers. -/

open Sys2Proof Sys2Proof.Machine

/-! ## The queue and the outputs -/

/-- A step takes the command at the front of the queue and runs it with the queue's rest. (The model's choice:
the queue of commands and its step are the model's, log 31.) -/
def Obligations.StepRunsFrontCommand : Prop :=
  ∀ (c : Instr) (rest : List Instr) (s : State),
    s.pending = c :: rest → step s = exec c { s with pending := rest }

/-- Every command completes in every state, keeps the queue, and leaves ALARM as R174 gives it (deasserted
while PORST is low, R178), PROT READY as R159 gives it, the TRIP line driven from TRIP in RUN alone (R143), CONV as the
Bay Input Unit drives it (R2), and STATUS CODE as R175 and R181 give it, 7 while a reset holds the station; a path with a frame in
transmission signals no transmit error. (The model's choice: that a row leaves a state in which its event cannot
happen, log 1; that the outputs are driven at the end of every event, log 28; how long a transmit error stands,
log 44.) -/
def Obligations.CommandsCompleteWithOutputsDriven : Prop :=
  ∀ (c : Instr) (s : State), ∃ t, exec c s = .next t ∧ t.pending = s.pending
    ∧ (t.out.alarm = true ↔ t.pins.porstLow = false ∧
        (t.bay.adcLost = true ∨ t.bay.travel = true ∨ t.roster.conflict = true ∨ t.roster.view = true
          ∨ t.clock.syncLoss = true ∨ t.link.paths.a.state = .down ∨ t.link.paths.a.state = .failed
          ∨ (t.ctl.pben = true ∧ (t.link.paths.b.state = .down ∨ t.link.paths.b.state = .failed))
          ∨ (∃ r, t.sup.fault = some r ∧ r.acknowledged = false) ∨ t.ctl.mode = .halted))
    ∧ (t.out.protReady = true ↔ t.ctl.mode = .run ∧ t.resetHeld = false ∧ t.clock.sync.acceptable = true
        ∧ (∀ g, t.attachedGroup g = true → t.diff.blocked (t.diff.groups.get g) = false)
        ∧ t.diff.blocked t.diff.check = false ∧ t.diff.fault = false)
    ∧ (t.out.tripLine = true ↔ t.ctl.mode = .run ∧ t.resetHeld = false ∧ t.trip.output = true)
    ∧ t.out.conv = t.bay.convLine
    ∧ (∀ p, (t.link.paths.get p).sending ≠ none → t.out.txError.get p = false)
    ∧ (t.resetHeld = true → t.out.statusCode = 7)
    ∧ (t.resetHeld = false →
        (t.ctl.mode = .run → t.out.statusCode = 0) ∧ (t.ctl.mode = .config → t.out.statusCode = 9)
        ∧ (t.ctl.mode = .test → t.out.statusCode = 10)
        ∧ (∀ n, t.ctl.mode = .selftest → t.ctl.step = some n → t.out.statusCode = n)
        ∧ (∀ h, t.ctl.mode = .halted → t.sup.halt = some h →
            (h.code = .stop → t.out.statusCode = 12) ∧ (h.code = .doubleFault → t.out.statusCode = 13)
            ∧ (h.code = .configCorrupt → t.out.statusCode = 14)
            ∧ ∀ n, h.code = .selftest n → t.out.statusCode = n))

/-! ## Resets and the self-test -/

/-- COLD_RESET holds every block at its cold-reset values, each path by its link-up line and path B by the
latched enable, with the latched straps, STATUS CODE 7 and the outputs deasserted, and cuts off a frame in
transmission with a transmit error; PORST_RISE latches the straps and path B's enable and enters SELFTEST at step 7
with start kind cold and an EMPTY store. (The model's choice: the reset values that the tables do not give, log 7,
the tick count held at 0, log 8, the line field of a disabled path B, log 41, and the transmit error of a reset,
log 44.) -/
def Obligations.ColdReset : Prop :=
  (∀ s : State, ∃ t, exec .coldReset s = .next t
    ∧ t.pins = { s.pins with porstLow := true } ∧ t.pending = s.pending ∧ t.health = s.health
    ∧ t.bay = Bay.initial ∧ t.clock = Clock.cold ∧ t.roster = Roster.initial ∧ t.asm = Assembler.initial
    ∧ t.replica = Replica.initial ∧ t.diff = Diff.initial ∧ t.trip = Trip.cold ∧ t.sup = Supervision.cold
    ∧ t.svc = Service.initial ∧ t.ctl.mode = .selftest ∧ t.ctl.step = some 7 ∧ t.ctl.store = .empty
    ∧ t.ctl.block = none ∧ t.ctl.signature = none ∧ t.ctl.start = .cold ∧ t.ctl.strap = s.ctl.strap
    ∧ t.ctl.pben = s.ctl.pben ∧ t.ctl.tripReported = false ∧ t.link = Link.initial s.pins.lup s.ctl.pben
    ∧ (t.link.paths.a.state = if s.pins.lup.a then .up else .down)
    ∧ (t.link.paths.b.state = if s.pins.lup.b && s.ctl.pben then .up else .down)
    ∧ t.out.statusCode = 7 ∧ t.out.alarm = false
    ∧ t.out.tripLine = false ∧ t.out.protReady = false ∧ t.out.conv = false
    ∧ ∀ p, (s.link.paths.get p).sending ≠ none → t.out.txError.get p = true)
  ∧ ∀ (stn : BitVec 5) (pben : Bool) (s : State), s.pins.porstLow = true →
    ∃ t, exec (.porstRise stn pben) s = .next t
      ∧ t.pins = { s.pins with porstLow := false } ∧ t.pending = s.pending ∧ t.health = s.health
      ∧ t.bay = Bay.initial ∧ t.clock = Clock.cold ∧ t.roster = Roster.initial ∧ t.asm = Assembler.initial
      ∧ t.replica = Replica.initial ∧ t.diff = Diff.initial ∧ t.trip = Trip.cold ∧ t.sup = Supervision.cold
      ∧ t.svc = Service.initial ∧ t.ctl.mode = .selftest ∧ t.ctl.step = some 7 ∧ t.ctl.start = .cold
      ∧ t.ctl.strap = stn.toNat ∧ t.ctl.pben = pben ∧ t.ctl.store = .empty ∧ t.ctl.block = none
      ∧ t.ctl.signature = none ∧ t.ctl.tripReported = false
      ∧ t.link = Link.initial s.pins.lup pben
      ∧ (t.link.paths.a.state = if s.pins.lup.a then .up else .down)
      ∧ (t.link.paths.b.state = if s.pins.lup.b && pben then .up else .down)
      ∧ t.out.statusCode = 7 ∧ t.out.tripLine = false ∧ t.out.protReady = false ∧ t.out.conv = false

/-- WARM_RESET holds and WRST_RISE restarts the station at its warm-reset values: straps, store, block,
signature, tick count, trim and the trip, fault and halt records are kept, no signature stands with an EMPTY
store, each path follows its link-up line and its enable, and WARM_RESET cuts off a frame in transmission with a
transmit error. While PORST is low neither changes a
block. (The model's choice: the reset values that the tables do not give, log 7; what WRST does while
PORST is low, log 1; the line field of a disabled path B, log 41; the transmit error of a reset, log 44.) -/
def Obligations.WarmReset : Prop :=
  ∀ s : State,
    (s.pins.porstLow = false → ∃ t, exec .warmReset s = .next t ∧ t.pins = { s.pins with wrstLow := true }
      ∧ t.out.statusCode = 7 ∧ t.out.tripLine = false ∧ t.out.protReady = false
      ∧ t.ctl.mode = .selftest ∧ t.ctl.step = some 7 ∧ t.ctl.start = .warm ∧ t.ctl.strap = s.ctl.strap
      ∧ t.ctl.pben = s.ctl.pben ∧ t.ctl.store = s.ctl.store ∧ t.ctl.block = s.ctl.block
      ∧ t.clock = { Clock.cold with tick := s.clock.tick, trim := s.clock.trim } ∧ t.bay = Bay.initial
      ∧ t.roster = Roster.initial ∧ t.asm = Assembler.initial ∧ t.replica = Replica.initial
      ∧ t.diff = Diff.initial ∧ t.trip = { Trip.cold with record := s.trip.record }
      ∧ t.sup = { Supervision.cold with fault := s.sup.fault, halt := s.sup.halt }
      ∧ t.svc = Service.initial ∧ t.pending = s.pending ∧ t.health = s.health
      ∧ t.link = Link.initial s.pins.lup s.ctl.pben
      ∧ (t.link.paths.a.state = if s.pins.lup.a then .up else .down)
      ∧ (t.link.paths.b.state = if s.pins.lup.b && s.ctl.pben then .up else .down)
      ∧ t.ctl.signature = (if s.ctl.store = .empty then none else s.ctl.signature)
      ∧ t.ctl.tripReported = false ∧ t.out.conv = false
      ∧ ∀ p, (s.link.paths.get p).sending ≠ none → t.out.txError.get p = true)
    ∧ (s.pins.porstLow = false → s.pins.wrstLow = true → ∃ t, exec .wrstRise s = .next t
      ∧ t.pins = { s.pins with wrstLow := false } ∧ t.ctl.mode = .selftest ∧ t.ctl.step = some 7
      ∧ t.ctl.start = .warm ∧ t.ctl.strap = s.ctl.strap ∧ t.ctl.pben = s.ctl.pben
      ∧ t.ctl.store = s.ctl.store ∧ t.ctl.block = s.ctl.block
      ∧ t.clock = { Clock.cold with tick := s.clock.tick, trim := s.clock.trim } ∧ t.bay = Bay.initial
      ∧ t.roster = Roster.initial ∧ t.asm = Assembler.initial ∧ t.replica = Replica.initial
      ∧ t.diff = Diff.initial ∧ t.trip = { Trip.cold with record := s.trip.record }
      ∧ t.sup = { Supervision.cold with fault := s.sup.fault, halt := s.sup.halt }
      ∧ t.svc = Service.initial ∧ t.pending = s.pending ∧ t.health = s.health
      ∧ t.link = Link.initial s.pins.lup s.ctl.pben
      ∧ (t.link.paths.a.state = if s.pins.lup.a then .up else .down)
      ∧ (t.link.paths.b.state = if s.pins.lup.b && s.ctl.pben then .up else .down)
      ∧ t.ctl.signature = (if s.ctl.store = .empty then none else s.ctl.signature)
      ∧ t.ctl.tripReported = false ∧ t.out.conv = false)
    ∧ (s.pins.porstLow = true → ∃ t, exec .warmReset s = .next t
      ∧ t = { s with pins := { s.pins with wrstLow := true }, out := t.out })
    ∧ (s.pins.porstLow = true → s.pins.wrstLow = true → ∃ t, exec .wrstRise s = .next t
      ∧ t = { s with pins := { s.pins with wrstLow := false }, out := t.out })

/-- STORAGE_TEST ends step 7: a mismatch halts with code 7, a datapath that fails one of the 16 masks halts
with code 6, and otherwise step 4 starts with its first attempt, after step 5 has discarded a stored block
whose CRC does not agree on a warm start. (The model's choice: the health of the datapath is the model's
field, log 10; when the row comes, log 22; how long the pulse on CONV lasts, log 36.) -/
def Obligations.StorageTest : Prop :=
  ∀ s : State, s.atStep 7 = true →
    (∃ t, exec (.storageTest false) s = .next t ∧ t.ctl.mode = .halted ∧ t.out.statusCode = 7
      ∧ t.sup.halt.map HaltRecord.code = some (.selftest 7) ∧ t.sup.fault = s.sup.fault ∧ t.clock = s.clock)
    ∧ (s.health.selftestPasses = false → ∃ t, exec (.storageTest true) s = .next t ∧ t.ctl.mode = .halted
      ∧ t.out.statusCode = 6 ∧ t.sup.halt.map HaltRecord.code = some (.selftest 6)
      ∧ t.sup.fault = s.sup.fault ∧ t.sup.invertMask = s.sup.invertMask ∧ t.clock = s.clock)
    ∧ (s.health.selftestPasses = true → ∃ t, exec (.storageTest true) s = .next t
      ∧ t.ctl.mode = .selftest ∧ t.ctl.step = some 4 ∧ t.ctl.attempts = 1 ∧ t.ctl.attemptTicks = 0
      ∧ t.bay = { s.bay with conv := .waitDrdy, convLine := true, wait := 0, readTicks := 0 } ∧ t.out.statusCode = 4
      ∧ t.asm.openSets = [] ∧ t.asm.history = [] ∧ (∀ g, (t.diff.groups.get g).ring = [])
      ∧ t.diff.check.ring = [] ∧ t.clock = s.clock ∧ t.link = s.link ∧ t.trip = s.trip ∧ t.sup = s.sup
      ∧ (s.ctl.start = .warm ∧ s.ctl.store ≠ .empty ∧ blockCrcGood s.blockBytes = false →
          t.ctl.store = .empty ∧ t.ctl.block = none ∧ t.ctl.signature = none)
      ∧ (¬(s.ctl.start = .warm ∧ s.ctl.store ≠ .empty ∧ blockCrcGood s.blockBytes = false) →
          t.ctl.store = s.ctl.store ∧ t.ctl.block = s.ctl.block ∧ t.ctl.signature = s.ctl.signature))

/-- Step 4: CONVERSION_ATTEMPT starts an attempt 10,000 ticks after the one before; a timeout ends an
attempt without success and the third halts with code 4; a completed read succeeds when its reference
code lies in the window that R185 gives, and step 3 with the loopback frame
of the first path that is tested out or, with no line high, step 2 follows. (The model's
choice: the ticks the rows carry, log 3; when the pulse on CONV begins and ends, log 36.) -/
def Obligations.SelftestConversion : Prop :=
  ∀ s : State, s.atStep 4 = true →
    (s.bay.conv = .idle → s.ctl.attempts < 3 → ∃ t, exec .conversionAttempt s = .next t
      ∧ t.bay = { s.bay with conv := .waitDrdy, convLine := true, wait := 0, readTicks := 0 }
      ∧ t.ctl.attempts = s.ctl.attempts + 1 ∧ t.ctl.attemptTicks = 0 ∧ t.ctl.step = some 4
      ∧ t.clock.tick = s.clock.tick + BitVec.ofNat 32 (10000 - s.ctl.attemptTicks)
      ∧ t.ProtectionKept s ∧ t.link = s.link)
    ∧ (s.bay.conv = .waitDrdy → s.ctl.attempts < 3 → ∃ t, exec .adcTimeout s = .next t
      ∧ t.bay.conv = .idle ∧ t.bay.convLine = false ∧ t.bay.failRun = s.bay.failRun ∧ t.bay.record = s.bay.record
      ∧ t.ctl.mode = .selftest ∧ t.ctl.step = some 4 ∧ t.ctl.attempts = s.ctl.attempts ∧ t.ProtectionKept s)
    ∧ (s.bay.conv = .waitDrdy → 3 ≤ s.ctl.attempts → ∃ t, exec .adcTimeout s = .next t
      ∧ t.ctl.mode = .halted ∧ t.out.statusCode = 4
      ∧ t.sup.halt.map HaltRecord.code = some (.selftest 4))
    ∧ (∀ bits : BitVec 64, s.bay.conv = .reading → s.ctl.store ≠ .empty → s.refLo < s.refHi →
      ¬(s.refLo ≤ (adcCodes bits).2 ∧ (adcCodes bits).2 ≤ s.refHi) →
      ∃ t, exec (.readComplete bits) s = .next t ∧ t.bay.conv = .idle
        ∧ (s.ctl.attempts < 3 → t.ctl.mode = .selftest ∧ t.ctl.step = some 4 ∧ t.ctl.attempts = s.ctl.attempts)
        ∧ (3 ≤ s.ctl.attempts → t.ctl.mode = .halted ∧ t.out.statusCode = 4
            ∧ t.sup.halt.map HaltRecord.code = some (.selftest 4)))
    ∧ ∀ bits : BitVec 64, s.bay.conv = .reading →
      s.ctl.store = .empty ∨ s.refHi ≤ s.refLo ∨ (s.refLo ≤ (adcCodes bits).2 ∧ (adcCodes bits).2 ≤ s.refHi) →
      ∃ t, exec (.readComplete bits) s = .next t
        ∧ t.bay.conv = .idle ∧ t.bay.convLine = false ∧ t.bay.record = s.bay.record ∧ t.bay.failRun = s.bay.failRun
        ∧ t.ctl.mode = .selftest
        ∧ (s.pins.lup.a = true → t.ctl.step = some 3 ∧ t.ctl.loopPath = some .a
            ∧ t.ctl.loopFrame = some s.loopFrame ∧ t.ctl.loopTicks = 0)
        ∧ (s.pins.lup.a = false → s.pins.lup.b = true → s.ctl.pben = true →
            t.ctl.step = some 3 ∧ t.ctl.loopPath = some .b ∧ t.ctl.loopFrame = some s.loopFrame ∧ t.ctl.loopTicks = 0)
        ∧ (s.pins.lup.a = false → s.pins.lup.b = false ∨ s.ctl.pben = false →
            t.ctl.step = some 2 ∧ t.ctl.loopPath = none)
        ∧ t.ProtectionKept s

/-- Step 3: the loopback frame that the station sends, returned unchanged, passes step 1 with its payload
unchanged; a returned frame passes when it passes step 1 and its payload is unchanged, whatever its header,
and any other fails; a frame that has not returned within 1 ms fails; a failed path that is not DOWN is FAILED
with count 255; path B follows path A, and step 2 follows the last path. (The model's choice: the ticks
LOOPBACK_TIMEOUT carries, log 3; a path whose line falls stays DOWN, log 21; when a path's line is judged, log
39.) -/
def Obligations.Loopback : Prop :=
  (∀ s : State, s.ctl.store = .empty ∨ s.blockBytes.length = 58 → loopGood s.loopFrame false = true)
  ∧ ∀ (s : State) (p : Sys2Proof.Path), s.atStep 3 = true → s.ctl.loopPath = some p →
    (∀ (frame : List Byte) (e : Bool), s.ctl.loopTicks ≤ 24000 →
      ∃ t, exec (.loopbackReturn frame e) s = .next t
        ∧ (t.link.paths.get p).loopback
            = some (frameGood frame e && frame.length == 64 && (frame.drop 14).take 46 == loopPayload)
        ∧ (loopGood frame e = true → t.link.paths.get p = { s.link.paths.get p with loopback := some true })
        ∧ (loopGood frame e = false → (s.link.paths.get p).state ≠ .down →
            (t.link.paths.get p).state = .failed ∧ (t.link.paths.get p).health = 255)
        ∧ t.link.paths.get p.other = s.link.paths.get p.other
        ∧ (p = .a ∧ s.ctl.pben = true ∧ s.pins.lup.b = true →
            t.ctl.step = some 3 ∧ t.ctl.loopPath = some .b ∧ t.ctl.loopFrame = some s.loopFrame ∧ t.ctl.loopTicks = 0)
        ∧ (¬(p = .a ∧ s.ctl.pben = true ∧ s.pins.lup.b = true) →
            t.ctl.step = some 2 ∧ t.ctl.loopPath = none ∧ t.ctl.loopFrame = none)
        ∧ t.clock = s.clock ∧ t.bay = s.bay ∧ t.svc = s.svc ∧ t.ProtectionKept s)
    ∧ ∃ t, exec .loopbackTimeout s = .next t
        ∧ (t.link.paths.get p).loopback = some false
        ∧ ((s.link.paths.get p).state ≠ .down →
            (t.link.paths.get p).state = .failed ∧ (t.link.paths.get p).health = 255)
        ∧ t.link.paths.get p.other = s.link.paths.get p.other ∧ t.ProtectionKept s

/-- MCLK_CHECK: a count within 23,520..24,480 ends the self-test in RUN with a COMMITTED store, with the entry
values of the paths, the roster, the replica and the Differential Unit, and in CONFIG otherwise; any other count
halts with code 2. (The model's choice: when the row comes, log 22; the entry
values that the tables do not give, log 7.) -/
def Obligations.MclkCheck : Prop :=
  ∀ (s : State) (count : Nat), s.atStep 2 = true →
    (23520 ≤ count → count ≤ 24480 → s.ctl.store = .committed → ∃ t, exec (.mclkCheck count) s = .next t
      ∧ t.ctl.mode = .run ∧ t.ctl.step = none ∧ t.out.statusCode = 0 ∧ t.clock.sync = .unlocked
      ∧ t.ctl.signature = some (crc16 ((s.blockBytes.drop 1).take 17)) ∧ t.link.queryPending = true
      ∧ t.bay = Bay.initial ∧ t.asm = Assembler.initial ∧ t.diff.fault = s.diff.fault
      ∧ t.trip = { Trip.cold with record := s.trip.record } ∧ t.ctl.store = .committed
      ∧ s.StartsAfresh t ∧ s.PathsEnterRun t)
    ∧ (23520 ≤ count → count ≤ 24480 → s.ctl.store ≠ .committed → ∃ t, exec (.mclkCheck count) s = .next t
      ∧ t.ctl.mode = .config ∧ t.out.statusCode = 9 ∧ t.ctl.store = s.ctl.store ∧ t.bay = s.bay
      ∧ t.clock = s.clock ∧ t.link = s.link ∧ t.ProtectionKept s)
    ∧ (count < 23520 ∨ 24480 < count → ∃ t, exec (.mclkCheck count) s = .next t
      ∧ t.ctl.mode = .halted ∧ t.out.statusCode = 2
      ∧ t.sup.halt.map HaltRecord.code = some (.selftest 2))

/-! ## Bay measurement -/

/-- In each phase of the record of a valid measurement the sample is the product of the code and the
factor of that phase divided by 16,384 and rounded to the nearest integer with halves away from zero,
forced to ±32,767 with the clamp flag set for an over-range code or a result beyond ±32,767. -/
def Obligations.ScalingAndClamp : Prop :=
  (∀ p : Int, 2 * (16384 * roundScale p - p).natAbs ≤ 16384
      ∧ (2 * (16384 * roundScale p - p).natAbs = 16384 → p.natAbs < (16384 * roundScale p).natAbs)
      ∧ roundScale (-p) = -roundScale p ∧ roundScale 0 = 0)
  ∧ (∀ (a : Int) (m : Nat),
      (a = 32767 → scaleCode a m = (32767, true)) ∧ (a = -32768 → scaleCode a m = (-32767, true))
      ∧ (a ≠ 32767 → a ≠ -32768 →
          (32767 < roundScale (a * m) → scaleCode a m = (32767, true))
          ∧ (roundScale (a * m) < -32767 → scaleCode a m = (-32767, true))
          ∧ (-32767 ≤ roundScale (a * m) → roundScale (a * m) ≤ 32767 →
              scaleCode a m = (roundScale (a * m), false))))
  ∧ ∀ (s : State) (c : PerPhase Int),
      (s.validRecord c).cur.l1 = (scaleCode c.l1 (s.set16 22)).1
      ∧ (s.validRecord c).cur.l2 = (scaleCode c.l2 (s.set16 24)).1
      ∧ (s.validRecord c).cur.l3 = (scaleCode c.l3 (s.set16 26)).1
      ∧ (s.validRecord c).clamp.l1 = (scaleCode c.l1 (s.set16 22)).2
      ∧ (s.validRecord c).clamp.l2 = (scaleCode c.l2 (s.set16 24)).2
      ∧ (s.validRecord c).clamp.l3 = (scaleCode c.l3 (s.set16 26)).2

/-- At every instant, whatever the conversion does, the raw state of each device formed from its pair of
contacts by the table of R9 is what its debouncing takes in. -/
def Obligations.RawStates : Prop :=
  ∀ (s : State) (d : Device),
    let c := s.pins.contacts.get d
    let raw := (s.instantNow.bay.dev.get d).cand
    (c.openOn = true → c.closedOn = false → raw = some .opened)
    ∧ (c.openOn = false → c.closedOn = true → raw = some .closed)
    ∧ (c.openOn = false → c.closedOn = false → raw = some .moving)
    ∧ (c.openOn = true → c.closedOn = true → raw = some .invalid)

/-- The candidate, the stability count and the debounced state at an instant, and their consequence: a raw
value that comes at the debounce count of instants in a row becomes the debounced state at the last of
them, and one that comes at fewer never does. -/
def Obligations.DebounceFollowsStableStates : Prop :=
  ∀ (d : Debounce) (raw : DPoint) (count limit : Nat), 1 ≤ count → d.stab ≤ count →
    (d.step count limit raw).cand = some raw
    ∧ (d.cand = some raw → (d.step count limit raw).stab = min count (d.stab + 1))
    ∧ (d.cand ≠ some raw → (d.step count limit raw).stab = 1)
    ∧ (d.step count limit raw).deb = (if (d.step count limit raw).stab = count then raw else d.deb)
    ∧ (d.cand ≠ some raw → d.deb ≠ raw → ∀ n,
        ((fun e : Debounce => e.step count limit raw)^[n] d).deb = if count ≤ n then raw else d.deb)

/-- ADC LOST is raised by the third failed instant in a row and cleared by the 2,400th good instant in a
row, and by no earlier one. -/
def Obligations.AdcLostRuns : Prop :=
  (∀ b : Bay, b.adcLost = false → b.failRun = 0 → ∀ n,
      ((fun x : Bay => x.judge false)^[n] b).adcLost = decide (3 ≤ n))
  ∧ ∀ b : Bay, b.adcLost = true → b.goodRun = 0 → ∀ n, n ≤ 2400 →
      ((fun x : Bay => x.judge true)^[n] b).adcLost = decide (n < 2400)

/-- SAMPLE_INSTANT in RUN or TEST, with nothing due before it: the rest of the period passes, the index
advances by one modulo 48,000, a pending slew whose step the period carried falls by one period, the next
period is formed from the trim and the pending slew, the conversion of that index starts with a pulse on CONV,
the contacts and BLOCK IN are read, and the set of that index opens with every slot EMPTY; in RUN a STATUS is requested
at the index 100 × own number modulo 2,400. An ADC timeout due at the tick of the instant is taken before it: where that
halts the station no instant comes, and where it leaves nothing else due the instant follows as it does after
ADC_TIMEOUT. In RUN the unlocked run, the acquiring elapsed count and the holdover elapsed count follow R34, R25 and R32 by the sync state: SYNC
LOSS is raised when the unlocked run passes 2,400, and HOLDOVER ends in UNLOCKED at its limit; in TEST none of
them moves. (The model's choice: the row carries the rest of the period, log 3; what is due before it comes
first, log 5; the counts of one instant, log 26; the width of the pulse, log 36.) -/
def Obligations.SampleInstant : Prop :=
  ∀ (s : State) (contacts : PerDevice Contacts) (blockIn : Bool),
    s.working = true → s.Undisturbed s.clock.remaining →
    (s.ticksTo .adc = some s.clock.remaining → ∃ u, exec .adcTimeout s = .next u
      ∧ (u.working = false → exec (.sampleInstant contacts blockIn) s = .next u)
      ∧ (u.working = true → u.clock.stepDue = none → u.headDue = false →
          exec (.sampleInstant contacts blockIn) s = exec (.sampleInstant contacts blockIn) u))
    ∧ (s.ticksTo .adc ≠ some s.clock.remaining →
    ∃ t, exec (.sampleInstant contacts blockIn) s = .next t
      ∧ t.clock.index = (s.clock.index + 1) % 48000
      ∧ t.clock.tick = s.clock.tick + BitVec.ofNat 32 s.clock.remaining ∧ t.clock.taken = true
      ∧ t.clock.instants = ⟨t.clock.index, t.clock.tick⟩ :: s.clock.instants.take 7
      ∧ t.clock.period = 2560000 + t.clock.trim + slewStep t.clock.slew ∧ t.clock.trim = s.clock.trim
      ∧ (0 ≤ s.clock.frac + t.clock.period →
          (256 * t.clock.remaining + t.clock.frac : Int) = s.clock.frac + t.clock.period ∧ t.clock.frac < 256)
      ∧ t.bay.conv = .waitDrdy ∧ t.bay.convLine = true ∧ t.bay.convIndex = t.clock.index ∧ t.bay.wait = 0
      ∧ t.bay.record = s.bay.record ∧ t.bay.failRun = s.bay.failRun ∧ t.bay.adcLost = s.bay.adcLost
      ∧ (∀ d, t.bay.dev.get d
          = (s.bay.dev.get d).step s.debounceCount (s.travelTime d) (rawState (contacts.get d)))
      ∧ t.bay.blockIn = s.bay.blockIn.step s.debounceCount blockIn
      ∧ (t.bay.travel = true ↔ ∃ d, (t.bay.dev.get d).expired = true)
      ∧ t.pins = { s.pins with contacts := contacts, blockIn := blockIn }
      ∧ t.asm = { s.asm with openSets := s.asm.openSets ++ [⟨t.clock.index, .const ⟨.empty, false⟩⟩] }
      ∧ (t.link.statusPending = true ↔ s.link.statusPending = true
          ∨ (s.ctl.mode = .run ∧ t.clock.index % 2400 = 100 * s.ctl.strap % 2400))
      ∧ t.link.paths = s.link.paths ∧ t.link.queryPending = s.link.queryPending
      ∧ t.roster = s.roster ∧ t.replica = s.replica ∧ t.diff = s.diff ∧ t.trip = s.trip ∧ t.sup = s.sup
      ∧ t.ctl = s.ctl ∧ t.health = s.health ∧ t.pending = s.pending
      ∧ (t.clock.slewLive = true ↔ t.clock.slew ≠ 0)
      ∧ (¬(s.ctl.mode = .run ∧ s.clock.sync = .holdover ∧ s.set8 43 * 2400 ≤ s.clock.holdoverElapsed + 1) →
          t.clock.sync = s.clock.sync
          ∧ (s.clock.slewLive = true → t.clock.slew = s.clock.slew - s.clock.slew.sign)
          ∧ (s.clock.slewLive = false → t.clock.slew = s.clock.slew))
      ∧ (s.ctl.mode = .run →
          (s.clock.sync = .unlocked ∨ s.clock.sync = .acquiring →
            t.clock.unlockedRun = (if s.clock.unlockedRun < 2401 then s.clock.unlockedRun + 1 else 2401)
            ∧ (t.clock.syncLoss = true ↔ s.clock.syncLoss = true ∨ 2400 ≤ s.clock.unlockedRun))
          ∧ (s.clock.sync = .acquiring → t.clock.acquiringElapsed
              = if s.clock.acquiringElapsed < 2400 then s.clock.acquiringElapsed + 1 else 2400)
          ∧ (s.clock.sync = .holdover → t.clock.holdoverElapsed = s.clock.holdoverElapsed + 1
            ∧ (s.set8 43 * 2400 ≤ s.clock.holdoverElapsed + 1 → t.clock.sync = .unlocked ∧ t.clock.slew = 0)))
      ∧ (s.ctl.mode = .test ∨ (s.clock.sync ≠ .unlocked ∧ s.clock.sync ≠ .acquiring) →
          t.clock.unlockedRun = s.clock.unlockedRun ∧ t.clock.syncLoss = s.clock.syncLoss)
      ∧ (s.ctl.mode = .test ∨ s.clock.sync ≠ .holdover → t.clock.holdoverElapsed = s.clock.holdoverElapsed)
      ∧ (s.ctl.mode = .test ∨ s.clock.sync ≠ .acquiring → t.clock.acquiringElapsed = s.clock.acquiringElapsed))

/-- At an instant a device whose debounced state becomes MOVING has travel count 0 and no expired marker; while it
stays MOVING the count grows by one until it reaches the travel time, which sets the marker and stops the count, so
that a device that stays MOVING has the marker at the instant of its travel time and not before; when it leaves
MOVING the count stops and the marker is clear. MOVING with the marker is reported INVALID, any other debounced state
as it is. The travel time is that of the disconnectors or of the breaker. BLOCK IN has a candidate and a stability
count of its own and is debounced like a device, the line high being ACTIVE. TRAVEL_EXPIRY: a device that is debounced
MOVING with its travel count at its travel time has its expired marker set, is reported INVALID and raises TRAVEL;
nothing else changes. (The model's choice: the row takes a threshold that stands reached, log 4; a count that has
stopped is none, log 7.) -/
def Obligations.TravelExpiry : Prop :=
  (∀ (d : Debounce) (raw : DPoint) (count limit : Nat),
    let e := d.step count limit raw
    (e.deb = .moving → d.deb ≠ .moving → e.travel = some 0 ∧ e.expired = false)
    ∧ (e.deb = .moving → d.deb = .moving →
        (d.expired = true → e.travel = d.travel ∧ e.expired = true)
        ∧ (d.expired = false → ∀ c, d.travel = some c →
            e.travel = some (c + 1) ∧ (e.expired = true ↔ limit ≤ c + 1)))
    ∧ (e.deb ≠ .moving → e.travel = none ∧ e.expired = false)
    ∧ e.reported = (if e.deb = .moving ∧ e.expired = true then .invalid else e.deb)
    ∧ (raw = .moving → d.deb = .moving → d.travel = some 0 → d.expired = false → 1 ≤ limit → ∀ n,
        ((fun x : Debounce => x.step count limit raw)^[n] d).travel = some (min limit n)
        ∧ ((fun x : Debounce => x.step count limit raw)^[n] d).expired = decide (limit ≤ n)))
  ∧ (∀ s : State, s.travelTime .x = s.set16 32 ∧ s.travelTime .y = s.set16 32 ∧ s.travelTime .breaker = s.set16 34)
  ∧ (∀ (b : BlockDebounce) (high : Bool) (count : Nat), 1 ≤ count → b.stab ≤ count →
    (b.step count high).cand = some high
    ∧ (b.cand = some high → (b.step count high).stab = min count (b.stab + 1))
    ∧ (b.cand ≠ some high → (b.step count high).stab = 1)
    ∧ (b.step count high).active = (if (b.step count high).stab = count then high else b.active)
    ∧ (b.cand ≠ some high → b.active ≠ high → ∀ n,
        ((fun x : BlockDebounce => x.step count high)^[n] b).active = if count ≤ n then high else b.active))
  ∧ ∀ (s : State) (d : Device) (c : Nat), s.working = true → (s.bay.dev.get d).deb = .moving →
    (s.bay.dev.get d).expired = false → (s.bay.dev.get d).travel = some c → s.travelTime d ≤ c →
    ∃ t, exec (.travelExpiry d) s = .next t
      ∧ t.bay.dev.get d = { s.bay.dev.get d with expired := true }
      ∧ (t.bay.dev.get d).reported = .invalid ∧ t.bay.travel = true
      ∧ (∀ e, e ≠ d → t.bay.dev.get e = s.bay.dev.get e)
      ∧ t = { s with bay := { s.bay with dev := t.bay.dev, travel := true }, out := t.out }

/-- DRDY_RISE below 4,800 ticks starts the read, and nothing else changes. (The model's choice: an acquisition
step that is due comes first, log 5.) -/
def Obligations.DrdyRise : Prop :=
  ∀ s : State, s.converts = true → s.clock.stepDue = none → s.bay.conv = .waitDrdy → s.bay.wait < 4800 →
    ∃ t, exec .drdyRise s = .next t
      ∧ t = { s with bay := { s.bay with conv := .reading, readTicks := 0 }, out := t.out }

/-- The end of a conversion of index k in RUN or TEST, with nothing due before it and sound open sets: ADC_TIMEOUT
forms the record of an invalid measurement; READ_COMPLETE forms it from the codes when the reference code lies in
ref lo..ref hi, and as an invalid measurement otherwise. In both cases, in RUN, the SAMPLE frame of the record
begins on each path that is not DOWN and sends nothing, and waits on one that sends; an EMPTY own slot of set k is
FILLED with the own contribution, a FILLED or DAMAGED one stays, and no other slot changes. When set k is the oldest
open set the complete sets then close, else nothing more happens. (The model's choice: the ticks the rows carry, log
3; what is due before them, log 5; the way of the record, log 17; the runs before the hand-off, log 45; the clause
that a failed instant makes the failure run min 3 (run + 1) also while ADC LOST is raised, log 47, where the table
of R8 says that it stays 3.) -/
def Obligations.ConversionEnds : Prop :=
  ∀ s : State, s.working = true → (∀ o ∈ s.asm.openSets, o.sound = true) →
    let k := s.bay.convIndex
    let invalid : OwnRecord := ⟨k, .const 0, .const false, false, s.bay.reported⟩
    let handed := fun (u : State) (r : OwnRecord) (n : Nat) =>
      u.bay.conv = .idle ∧ u.bay.record = some r ∧ u.bay.dev = s.bay.dev
      ∧ (s.ctl.mode = .run → ∀ p, (s.link.paths.get p).state ≠ .down →
          ((s.link.paths.get p).sending = none →
            (u.link.paths.get p).sending = some (.sample, wireFrame s.header (s.samplePayload r)))
          ∧ (∀ x, (s.link.paths.get p).sending = some x → (u.link.paths.get p).sending = some x
            ∧ (u.link.paths.get p).sampleSlot = some (wireFrame s.header (s.samplePayload r))))
      ∧ (s.ctl.mode ≠ .run → u.link = s.link)
      ∧ u.asm.openSets.map OpenSet.index = s.asm.openSets.map OpenSet.index
      ∧ (∀ j, j ≠ k → u.findOpen j = s.findOpen j)
      ∧ (∀ m o, s.own = some m → s.findOpen k = some o →
          ((o.slots.get m).body = .empty → ∃ o', u.findOpen k = some o' ∧ o'.slots.get m
            = ⟨.filled ⟨r.cur, r.clamp, r.valid, s.clock.sync, ⟨s.ownDesc, r.states, s.trip.bfRequest, s.trip.state⟩,
                none, some (s.clock.tick + BitVec.ofNat 32 n)⟩ false, false⟩
            ∧ ∀ i, i ≠ m → o'.slots.get i = o.slots.get i)
          ∧ ((o.slots.get m).body ≠ .empty → u.findOpen k = some o))
      ∧ u.asm.history = s.asm.history ∧ u.clock.index = s.clock.index
      ∧ u.clock.tick = s.clock.tick + BitVec.ofNat 32 n ∧ u.clock.sync = s.clock.sync
      ∧ u.roster = s.roster ∧ u.replica = s.replica ∧ u.diff = s.diff ∧ u.trip = s.trip ∧ u.sup = s.sup
      ∧ u.ctl = s.ctl ∧ u.pins = s.pins ∧ u.health = s.health ∧ u.pending = s.pending
    let completes := fun (c : Instr) (u : State) =>
      ((∀ o ∈ s.asm.openSets.head?, o.index ≠ k) → exec c s = .next u.driven)
      ∧ (∀ o ∈ s.asm.openSets.head?, o.index = k → exec c s = .next u.closeComplete.driven)
    (s.bay.conv = .waitDrdy → s.Undisturbed (4800 - s.bay.wait) →
      ∃ u, completes .adcTimeout u ∧ handed u invalid (4800 - s.bay.wait)
        ∧ u.bay.failRun = min 3 (s.bay.failRun + 1) ∧ u.bay.goodRun = 0)
    ∧ ∀ bits : BitVec 64, s.bay.conv = .reading → s.Undisturbed (256 - s.bay.readTicks) →
      (s.refLo ≤ (adcCodes bits).2 ∧ (adcCodes bits).2 ≤ s.refHi →
        ∃ u, completes (.readComplete bits) u
          ∧ handed u (s.validRecord (adcCodes bits).1) (256 - s.bay.readTicks) ∧ u.bay.failRun = 0)
      ∧ (¬(s.refLo ≤ (adcCodes bits).2 ∧ (adcCodes bits).2 ≤ s.refHi) →
        ∃ u, completes (.readComplete bits) u ∧ handed u invalid (256 - s.bay.readTicks)
          ∧ u.bay.failRun = min 3 (s.bay.failRun + 1) ∧ u.bay.goodRun = 0)

/-! ## The sample clock -/

/-- PPS_EDGE in RUN with sync mode PPS: the edge is recorded; an interval within 24,000,000 ± 2,400 ticks counts,
the third in a row qualifies PPS, and any other interval sets the run to 0 and disqualifies it, which takes
LOCKED-PPS to HOLDOVER and ACQUIRING to UNLOCKED. A qualified edge is a second mark. It takes UNLOCKED and
HOLDOVER to ACQUIRING with a step pending; in ACQUIRING with the step pending it is the base of the step, its
second number following the authority's latest used frame of the last 12,000,000 ticks, else the own; after the
step and in LOCKED-PPS its error against the nearest multiple of 2,400 gives the slew, the lock progress and the
excursion run. (The model's choice: an acquisition step that is due comes first, log 5; the state machine takes
the edge before the drift measurement does, log 37.) -/
def Obligations.PpsEdge : Prop :=
  ∀ s : State, s.inRun = true → s.syncPps = true → s.clock.stepDue = none →
    ∃ t, exec .ppsEdge s = .next t ∧ s.OnlyClock t
      ∧ t.clock.lastEdge = some s.clock.tick ∧ t.clock.sinceEdge = 0 ∧ t.clock.tick = s.clock.tick
      ∧ t.clock.index = s.clock.index
      ∧ (s.clock.lastEdge = none → t.clock.validRun = s.clock.validRun ∧ t.clock.qualified = s.clock.qualified)
      ∧ (∀ e, s.clock.lastEdge = some e →
          (23997600 ≤ (s.clock.tick - e).toNat ∧ (s.clock.tick - e).toNat ≤ 24002400 →
            t.clock.validRun = satInc 3 s.clock.validRun
            ∧ (t.clock.qualified = true ↔ s.clock.qualified = true ∨ t.clock.validRun = 3))
          ∧ (¬(23997600 ≤ (s.clock.tick - e).toNat ∧ (s.clock.tick - e).toNat ≤ 24002400) →
            t.clock.validRun = 0 ∧ t.clock.qualified = false))
      ∧ (t.clock.qualified = false →
          (s.clock.qualified = true ∧ s.clock.sync = .lockedPps →
            t.clock.sync = .holdover ∧ t.clock.slew = 0 ∧ t.clock.holdoverElapsed = 0)
          ∧ (s.clock.qualified = true ∧ s.clock.sync = .acquiring → t.clock.sync = .unlocked ∧ t.clock.slew = 0)
          ∧ (s.clock.qualified = false ∨ (s.clock.sync ≠ .lockedPps ∧ s.clock.sync ≠ .acquiring) →
            t.clock.sync = s.clock.sync ∧ t.clock.slew = s.clock.slew))
      ∧ (t.clock.qualified = true →
          t.clock.lastMark = some ⟨s.clock.tick, none⟩ ∧ t.clock.sinceMark = 0
          ∧ (s.clock.sync = .unlocked ∨ s.clock.sync = .holdover →
              t.clock.sync = .acquiring ∧ t.clock.stepPending = true ∧ t.clock.stepDue = none
              ∧ t.clock.lockProgress = 0 ∧ t.clock.excursion = 0 ∧ t.clock.misfit = 0
              ∧ t.clock.acquiringElapsed = 0 ∧ t.clock.batchSum = 0 ∧ t.clock.batchCount = 0 ∧ t.clock.slew = 0
              ∧ t.clock.lastAuth = none)
          ∧ (s.clock.sync = .acquiring → s.clock.stepPending = true →
              t.clock.sync = .acquiring ∧ t.clock.stepPending = true
              ∧ (∀ n u, s.clock.authority = .peer n → s.clock.lastUsed = some u →
                  (s.clock.tick - u.tick).toNat ≤ 12000000 →
                  t.clock.stepDue = some ⟨(u.index / 2400 + 1) * 2400 % 48000, s.clock.tick⟩)
              ∧ (¬(∃ n u, s.clock.authority = .peer n ∧ s.clock.lastUsed = some u
                    ∧ (s.clock.tick - u.tick).toNat ≤ 12000000) →
                  t.clock.stepDue = some ⟨s.clock.index / 2400 * 2400, s.clock.tick⟩))
          ∧ (∀ e, s.clock.ppsError = some e →
              (s.clock.sync = .acquiring → s.clock.stepPending = false →
                (e.natAbs ≤ 24 → t.clock.lockProgress = s.clock.lockProgress + 1
                  ∧ t.clock.sync = if 2 ≤ s.clock.lockProgress then .lockedPps else .acquiring)
                ∧ (24 < e.natAbs → t.clock.lockProgress = 0 ∧ t.clock.sync = .acquiring))
              ∧ (s.clock.sync = .lockedPps →
                (e.natAbs ≤ 480 → t.clock.sync = .lockedPps ∧ t.clock.excursion = 0)
                ∧ (480 < e.natAbs → s.clock.excursion = 0 → t.clock.sync = .lockedPps ∧ t.clock.excursion = 1)
                ∧ (480 < e.natAbs → 1 ≤ s.clock.excursion →
                    t.clock.sync = .acquiring ∧ t.clock.stepPending = true ∧ t.clock.slew = 0))
              ∧ (s.clock.sync = .lockedPps ∨ (s.clock.sync = .acquiring ∧ s.clock.stepPending = false) →
                e.natAbs ≤ 480 → t.clock.slew = if e = 0 then s.clock.slew else max (-240) (min 240 e)))
          ∧ (∀ st t0 t1, s.clock.anchor = some st → s.clock.ownTick (st.index / 2400 * 2400) = some t0 →
              s.clock.ownTick ((st.index / 2400 * 2400 + 2400) % 48000) = some t1 →
              ∃ e, s.clock.ppsError = some e ∧ (e = tickDiff s.clock.tick t0 ∨ e = tickDiff s.clock.tick t1)
                ∧ e.natAbs ≤ (tickDiff s.clock.tick t0).natAbs ∧ e.natAbs ≤ (tickDiff s.clock.tick t1).natAbs))

/-- PPS_TIMEOUT disqualifies PPS, which takes LOCKED-PPS to HOLDOVER and ACQUIRING to UNLOCKED;
MARK_MISSING discards the drift measurement. Each is taken at its tick when nothing comes before it. (The
model's choice: the ticks the rows carry, log 3; what is due before them, log 5; a missing mark clears the last
mark, log 24.) -/
def Obligations.MissedEdgesAndMarks : Prop :=
  ∀ s : State, s.inRun = true →
    (s.syncPps = true → s.clock.lastEdge.isSome = true → s.Undisturbed (24002400 - s.clock.sinceEdge) →
      ∃ t, exec .ppsTimeout s = .next t ∧ t.clock.qualified = false ∧ t.clock.validRun = 0
        ∧ t.clock.lastEdge = none ∧ t.clock.drift = .idle
        ∧ t.clock.tick = s.clock.tick + BitVec.ofNat 32 (24002400 - s.clock.sinceEdge)
        ∧ (s.clock.sync = .lockedPps → t.clock.sync = .holdover ∧ t.clock.holdoverElapsed = 0 ∧ t.clock.slew = 0)
        ∧ (s.clock.sync = .acquiring → t.clock.sync = .unlocked ∧ t.clock.slew = 0)
        ∧ (s.clock.sync ≠ .lockedPps → s.clock.sync ≠ .acquiring → t.clock.sync = s.clock.sync)
        ∧ t.clock.index = s.clock.index ∧ t.ctl = s.ctl ∧ t.link = s.link ∧ s.ProtectionKept t)
    ∧ (s.clock.lastMark.isSome = true → s.Undisturbed (24002400 - s.clock.sinceMark) →
      ∃ t, exec .markMissing s = .next t ∧ t.clock.drift = .idle ∧ t.clock.lastMark = none
        ∧ t.clock.tick = s.clock.tick + BitVec.ofNat 32 (24002400 - s.clock.sinceMark)
        ∧ t.clock.sync = s.clock.sync ∧ t.clock.trim = s.clock.trim ∧ t.clock.index = s.clock.index
        ∧ t.ctl = s.ctl ∧ t.link = s.link ∧ s.ProtectionKept t)

/-- ACQUISITION_STEP in ACQUIRING with the base b due: the next instant is the first of those that lie
whole periods after the base and after the present tick, numbered from the base's index; the conversion is
abandoned, the open sets and the history are flushed, the windows are emptied and the latches kept. (The model's
choice: the index that stands between the step and the next instant, log 38; when CONV falls, log 36.) -/
def Obligations.AcquisitionStep : Prop :=
  ∀ (s : State) (b : Stamp), s.inRun = true → s.clock.sync = .acquiring → s.clock.stepDue = some b →
    0 ≤ tickDiff s.clock.tick b.tick → -512 ≤ s.clock.trim → s.clock.trim ≤ 512 → b.index < 48000 →
    ∃ t, exec .acquisitionStep s = .next t
      ∧ (∃ j : Nat, 1 ≤ j ∧ (t.clock.index + 1) % 48000 = (b.index + j) % 48000
          ∧ (t.clock.remaining : Int) + tickDiff s.clock.tick b.tick = j * (2560000 + s.clock.trim) / 256
          ∧ 0 < t.clock.remaining
          ∧ ∀ i : Nat, 1 ≤ i → i < j → i * (2560000 + s.clock.trim) / 256 ≤ tickDiff s.clock.tick b.tick)
      ∧ t.clock.stepPending = false ∧ t.clock.stepDue = none ∧ t.clock.slew = 0 ∧ t.clock.lockProgress = 0
      ∧ t.clock.batchSum = 0 ∧ t.clock.batchCount = 0 ∧ t.clock.instants = [] ∧ t.clock.sync = .acquiring
      ∧ t.clock.tick = s.clock.tick ∧ t.clock.trim = s.clock.trim ∧ t.clock.drift = s.clock.drift
      ∧ t.bay = { s.bay with conv := .idle, convLine := false }
      ∧ t.asm = { Assembler.initial with marks := s.asm.marks }
      ∧ (∀ g, (t.diff.groups.get g).ring = [] ∧ (t.diff.groups.get g).operate = false
          ∧ (t.diff.groups.get g).counter = 0
          ∧ (t.diff.latches.get g).latched = (s.diff.latches.get g).latched
          ∧ (t.diff.latches.get g).hold = (s.diff.latches.get g).hold
          ∧ t.diff.blocked (t.diff.groups.get g) = s.diff.blocked (s.diff.groups.get g))
      ∧ t.diff.check.ring = [] ∧ t.diff.check.operate = false
      ∧ t.roster = s.roster ∧ t.replica = s.replica ∧ t.trip = s.trip ∧ t.sup = s.sup ∧ t.ctl = s.ctl
      ∧ t.link = s.link ∧ t.svc = s.svc ∧ t.pending = s.pending

/-- HOLDOVER_LIMIT ends HOLDOVER in UNLOCKED when the elapsed count has reached the setting × 2,400, and
SYNC_LOSS raises SYNC LOSS when the unlocked run has passed 2,400 in an unacceptable state; nothing but the
clock and the outputs changes. At a closure in RUN the index authority is the lowest-numbered LIVE peer below the
own number whose code the sync mode asks for, else SELF, else NONE while UNLOCKED in mode PPS; UNLOCKED in mode
PEER passes to ACQUIRING; the misfit run counts and at 24 leads to ACQUIRING; and in mode PEER LOCKED-PEER,
LOCKED-SELF, HOLDOVER and ACQUIRING follow the authority. A frame of the authority is used when it is newer than
the last one, and in mode PEER causes the step, or gives the lock progress, the excursion run and the slew batch.
(The model's choice: the rows take thresholds that stand reached, log 4; what a change of authority does, log
27.) -/
def Obligations.ClockLimits : Prop :=
  (∀ s : State, s.inRun = true →
    (s.clock.sync = .holdover → s.set8 43 * 2400 ≤ s.clock.holdoverElapsed →
      ∃ t, exec .holdoverLimit s = .next t ∧ s.OnlyClock t ∧ t.clock.sync = .unlocked ∧ t.clock.slew = 0
        ∧ t.clock.index = s.clock.index ∧ t.clock.trim = s.clock.trim ∧ t.out.protReady = false)
    ∧ (s.clock.sync = .unlocked ∨ s.clock.sync = .acquiring → 2400 < s.clock.unlockedRun →
      ∃ t, exec .syncLoss s = .next t ∧ s.OnlyClock t ∧ t.clock = { s.clock with syncLoss := true }
        ∧ t.out.alarms.syncLoss = true ∧ t.out.alarm = true))
  ∧ (∀ (s : State) (fit misfit : Bool), s.ctl.mode = .run →
    let t := s.clockClosure fit misfit
    let candidate := fun n : Station => s.live n = true ∧ s.isOwn n = false ∧ n.num < s.ctl.strap
      ∧ (s.syncPps = true → s.clock.codes.get n = .lockedPps)
      ∧ (s.syncPps = false → s.clock.codes.get n = .lockedPeer ∨ s.clock.codes.get n = .lockedSelf)
    let run := if t.clock.authority = s.clock.authority then s.clock.misfit else 0
    let leaves := fit = false ∧ misfit = true ∧ 23 ≤ run
    t = { s with clock := t.clock }
    ∧ (∀ n, t.clock.authority = .peer n ↔ candidate n ∧ ∀ m, m < n → ¬candidate m)
    ∧ ((∀ n, ¬candidate n) → t.clock.authority
        = if s.clock.sync = .unlocked ∧ s.syncPps = true then .none else .self)
    ∧ (t.clock.authority ≠ s.clock.authority → t.clock.lastAuth = none
        ∧ (s.syncPps = false → t.clock.drift = .idle))
    ∧ (s.syncPps = false → s.clock.sync = .unlocked →
        t.clock.sync = .acquiring ∧ t.clock.stepPending = true ∧ t.clock.slew = 0)
    ∧ (s.clock.sync = .lockedPeer ∨ (s.clock.sync = .lockedPps ∧ ∃ n, t.clock.authority = .peer n) →
        (leaves → t.clock.sync = .acquiring ∧ t.clock.stepPending = true ∧ t.clock.misfit = 0)
        ∧ (¬leaves → t.clock.misfit = (if fit then 0 else if misfit then run + 1 else run)
            ∨ (s.syncPps = false ∧ t.clock.authority ≠ s.clock.authority ∧ t.clock.misfit = 0)))
    ∧ (s.syncPps = true → ¬(leaves ∧ (s.clock.sync = .lockedPeer
          ∨ (s.clock.sync = .lockedPps ∧ ∃ n, t.clock.authority = .peer n))) →
        t.clock.sync = s.clock.sync ∧ t.clock.slew = s.clock.slew)
    ∧ (s.syncPps = false → s.clock.sync = .lockedPeer → ¬leaves →
        ((∃ n, t.clock.authority = .peer n) → t.clock.sync = .lockedPeer ∧ t.clock.slew = s.clock.slew
          ∧ (t.clock.authority ≠ s.clock.authority → t.clock.excursion = 0 ∧ t.clock.misfit = 0
              ∧ t.clock.batchSum = 0 ∧ t.clock.batchCount = 0))
        ∧ ((¬∃ n, t.clock.authority = .peer n) →
            t.clock.sync = .holdover ∧ t.clock.slew = 0 ∧ t.clock.holdoverElapsed = 0))
    ∧ (s.syncPps = false → s.clock.sync = .lockedSelf ∨ s.clock.sync = .holdover →
        ((∃ n, t.clock.authority = .peer n) → t.clock.sync = .acquiring ∧ t.clock.stepPending = true)
        ∧ ((¬∃ n, t.clock.authority = .peer n) → t.clock.sync = s.clock.sync))
    ∧ (s.syncPps = false → s.clock.sync = .acquiring →
        (t.clock.sync = .lockedSelf ↔ 2400 ≤ s.clock.acquiringElapsed ∧ t.clock.authority = .self
          ∧ ∀ n, s.isOwn n = false → n.num < s.ctl.strap → (s.entry n).state ≠ .live ∧ (s.entry n).state ≠ .joining)
        ∧ (t.clock.sync = .lockedSelf ∨ t.clock.sync = .acquiring)
        ∧ (t.clock.authority ≠ s.clock.authority → t.clock.stepPending = true ∧ t.clock.lockProgress = 0
            ∧ t.clock.batchSum = 0 ∧ t.clock.batchCount = 0)))
  ∧ ∀ (s : State) (f : Frame), s.ctl.mode = .run →
    let t := s.clockTake f
    let used := (∃ v c l b, f.body = .sample v c l b) ∧ s.clock.authority = .peer f.sender
      ∧ ∀ k, s.clock.lastAuth = some k → 1 ≤ ahead f.index k ∧ ahead f.index k < 24000
    t = { s with clock := t.clock } ∧ t.clock.codes = s.clock.codes.set f.sender f.sync
    ∧ t.clock.authority = s.clock.authority ∧ t.clock.tick = s.clock.tick ∧ t.clock.index = s.clock.index
    ∧ (¬used → t.clock = { s.clock with codes := t.clock.codes })
    ∧ (used → t.clock.lastUsed = some ⟨f.index, s.clock.tick⟩
      ∧ (s.syncPps = true → t.clock.lastAuth = some f.index ∧ t.clock.sync = s.clock.sync
          ∧ t.clock.slew = s.clock.slew ∧ t.clock.stepDue = s.clock.stepDue ∧ t.clock.drift = s.clock.drift)
      ∧ (s.syncPps = false →
        (t.clock.sync = s.clock.sync → t.clock.lastAuth = some f.index)
        ∧ (f.index % 2400 = 0 → t.clock.lastMark = some ⟨s.clock.tick, some f.index⟩)
        ∧ (f.index % 2400 ≠ 0 → t.clock.lastMark = s.clock.lastMark)
        ∧ (s.clock.sync = .acquiring → s.clock.stepPending = true →
            t.clock.stepDue = some ⟨f.index, tickAdd s.clock.tick (-(s.tlink : Int))⟩ ∧ t.clock.sync = .acquiring)
        ∧ (s.clock.sync = .unlocked ∨ s.clock.sync = .lockedSelf ∨ s.clock.sync = .holdover →
            t.clock.sync = s.clock.sync ∧ t.clock.slew = s.clock.slew)
        ∧ ∀ own, s.clock.ownTick f.index = some own →
            let e := tickDiff s.clock.tick (tickAdd own s.tlink)
            (s.clock.sync = .acquiring → s.clock.stepPending = false →
              (e.natAbs ≤ 48 → t.clock.lockProgress = s.clock.lockProgress + 1
                ∧ t.clock.sync = if 23 ≤ s.clock.lockProgress then .lockedPeer else .acquiring)
              ∧ (48 < e.natAbs → t.clock.lockProgress = 0 ∧ t.clock.sync = .acquiring))
            ∧ (s.clock.sync = .lockedPeer →
              (e.natAbs ≤ 480 → t.clock.excursion = 0 ∧ t.clock.sync = .lockedPeer)
              ∧ (480 < e.natAbs → s.clock.excursion ≤ 1 →
                  t.clock.excursion = s.clock.excursion + 1 ∧ t.clock.sync = .lockedPeer)
              ∧ (480 < e.natAbs → 2 ≤ s.clock.excursion → t.clock.sync = .acquiring ∧ t.clock.stepPending = true))
            ∧ ((s.clock.sync = .acquiring ∧ s.clock.stepPending = false) ∨ s.clock.sync = .lockedPeer →
              (480 < e.natAbs → t.clock.sync = s.clock.sync → t.clock.batchSum = s.clock.batchSum
                ∧ t.clock.batchCount = s.clock.batchCount ∧ t.clock.slew = s.clock.slew)
              ∧ (e.natAbs ≤ 480 → s.clock.batchCount ≤ 22 → t.clock.batchSum = s.clock.batchSum + e
                ∧ t.clock.batchCount = s.clock.batchCount + 1 ∧ t.clock.slew = s.clock.slew)
              ∧ (e.natAbs ≤ 480 → 23 ≤ s.clock.batchCount → t.clock.batchSum = 0 ∧ t.clock.batchCount = 0
                ∧ t.clock.slew = (if (s.clock.batchSum + e).tdiv 24 = 0 then s.clock.slew
                    else max (-24) (min 24 ((s.clock.batchSum + e).tdiv 24)))))))

/-- A drift count C over M marks is accepted when it lies within M × 24,000,000 ± M × 4,800; the new trim is
then C × 8 / (M × 75) to the nearest integer, halves up, minus 2,560,000, which lies within ±512 of itself. A rejected
count leaves the trim and is counted. The measurement runs in ACQUIRING, LOCKED-PPS and LOCKED-PEER: while IDLE the
next mark starts it at the mark's tick; each later mark is counted; the M-th publishes C, the ticks since the start,
and starts the next measurement. A mark whose index is not the last mark's plus 2,400 modulo 48,000 discards the
measurement and is itself the mark after the gap; every mark is kept with its tick and its index. -/
def Obligations.DriftTrim : Prop :=
  (∀ (c : Clock) (count m : Nat), 1 ≤ m →
    (((count : Int) - m * 24000000).natAbs ≤ m * 4800 →
      150 * m * ((c.publish count m).trim + 2560000) - 16 * (count : Int) ≤ 75 * m
      ∧ -(75 * m : Int) < 150 * m * ((c.publish count m).trim + 2560000) - 16 * (count : Int)
      ∧ -512 ≤ (c.publish count m).trim ∧ (c.publish count m).trim ≤ 512
      ∧ (c.publish count m).driftRejects = c.driftRejects)
    ∧ (m * 4800 < ((count : Int) - m * 24000000).natAbs →
      (c.publish count m).trim = c.trim ∧ (c.publish count m).driftRejects = satInc 65535 c.driftRejects)
    ∧ (c.publish count m).lastDrift = some count)
  ∧ (∀ (c : Clock) (m : Nat) (t : Tick),
    let runs := c.sync = .acquiring ∨ c.sync = .lockedPps ∨ c.sync = .lockedPeer
    (¬runs → c.driftMark m t = c)
    ∧ (runs → c.drift = .idle → c.driftMark m t = { c with drift := .counting t 0 })
    ∧ ∀ start n, runs → c.drift = .counting start n →
        (n + 1 < m → c.driftMark m t = { c with drift := .counting start (n + 1) })
        ∧ (m ≤ n + 1 → c.driftMark m t = { c.publish (t - start).toNat m with drift := .counting t 0 }))
  ∧ ∀ (c : Clock) (m : Nat) (index : Option Nat),
    let gap := ∃ tick last k, c.lastMark = some ⟨tick, some last⟩ ∧ index = some k ∧ k ≠ (last + 2400) % 48000
    let before := { c with drift := if c.markGap index then .idle else c.drift }
    (c.markGap index = true ↔ gap)
    ∧ c.secondMark m index = { before.driftMark m c.tick with lastMark := some ⟨c.tick, index⟩, sinceMark := 0 }
    ∧ (gap → c.sync = .acquiring ∨ c.sync = .lockedPps ∨ c.sync = .lockedPeer →
        (c.secondMark m index).drift = .counting c.tick 0 ∧ (c.secondMark m index).trim = c.trim
        ∧ (c.secondMark m index).lastDrift = c.lastDrift)

/-! ## The zone link -/

/-- ARRIVAL of a frame that a step of acceptance drops: a bad frame is counted and adds 8 to the health
count, a frame of another scheme changes nothing, a malformed one is counted and adds 8, and one from a
sender outside the population mask is counted alone. Nothing but the path changes. A payload is accepted at step 3
exactly when it passes every check of its kind, and is then read with the sender, index, sync state, signature and
kind of its bytes; bytes outside the layout, offset 5 of a QUERY and the currents of a SAMPLE frame without
measurement valid are not checked. -/
def Obligations.ArrivalDropped : Prop :=
  (∀ bytes : List Byte,
    let b := fun i => byteAt bytes (14 + i)
    let described := fun kind x y : Nat => (kind = 1 ∨ kind = 2) ∧ x ≤ 4 ∧ y ≤ 4
      ∧ (kind = 1 → ¬(x = 0 ∧ y = 0)) ∧ (kind = 2 → x ≠ 0 ∧ y ≠ 0 ∧ x ≠ y)
    (parseFrame bytes ≠ none ↔ (b 0 = 1 ∨ b 0 = 2 ∨ b 0 = 3) ∧ 1 ≤ b 1 ∧ b 1 ≤ 24
      ∧ b 2 + 256 * b 3 < 48000 ∧ b 4 ≤ 5
      ∧ (b 0 = 1 → described (b 8) (b 9) (b 11) ∧ b 10 ≤ 3 ∧ b 12 ≤ 3 ∧ b 13 ≤ 3 ∧ b 15 ≤ 3
        ∧ b 5 ≤ 31 ∧ b 14 ≤ 15 ∧ ((b 5).testBit 4 = true ↔ b 14 ≠ 0)
        ∧ ((b 5).testBit 0 = true → b 16 + 256 * b 17 ≠ 32768 ∧ b 18 + 256 * b 19 ≠ 32768
            ∧ b 20 + 256 * b 21 ≠ 32768))
      ∧ (b 0 = 3 → described (b 8) (b 9) (b 10) ∧ b 5 ≤ 2 ∧ b 14 ≤ 24))
    ∧ ∀ f, parseFrame bytes = some f → f.sender.val + 1 = b 1 ∧ f.index = b 2 + 256 * b 3
      ∧ f.sync.code = b 4 ∧ f.sig.toNat = b 6 + 256 * b 7
      ∧ (f.body = .query ↔ b 0 = 2) ∧ (f.body.isSample = true ↔ b 0 = 1)
      ∧ ∀ clamp cur bay, f.body = .sample false clamp cur bay → cur = .const 0)
  ∧ ∀ (s : State) (p : Sys2Proof.Path) (bytes : List Byte) (e : Bool),
    s.clock.stepDue = none → s.inRun = true → (s.link.paths.get p).state ≠ .down →
    (frameGood bytes e = true ↔ 64 ≤ bytes.length ∧ bytes.length ≤ 1518 ∧ crc32 bytes = 0xC704DD7B#32 ∧ e = false)
    ∧ (s.schemeFrame bytes = true ↔ bytes.take 6 = s.groupAddress
        ∧ byteAt bytes 12 * 256 + byteAt bytes 13 = s.linkType)
    ∧ (frameGood bytes e = false → ∃ t, exec (.arrival p bytes e) s = .next t ∧ s.OnlyLink t
      ∧ (t.link.paths.get p).fcs = satInc 65535 (s.link.paths.get p).fcs
      ∧ (t.link.paths.get p).health = min 255 ((s.link.paths.get p).health + 8)
      ∧ t.link.paths.get p.other = s.link.paths.get p.other)
    ∧ (frameGood bytes e = true → s.schemeFrame bytes = false → ∃ t, exec (.arrival p bytes e) s = .next t
      ∧ s.OnlyLink t ∧ t.link = s.link)
    ∧ (frameGood bytes e = true → s.schemeFrame bytes = true → parseFrame bytes = none →
      ∃ t, exec (.arrival p bytes e) s = .next t ∧ s.OnlyLink t
      ∧ (t.link.paths.get p).malformed = satInc 65535 (s.link.paths.get p).malformed
      ∧ (t.link.paths.get p).health = min 255 ((s.link.paths.get p).health + 8)
      ∧ t.link.paths.get p.other = s.link.paths.get p.other)
    ∧ ∀ f, frameGood bytes e = true → s.schemeFrame bytes = true → parseFrame bytes = some f →
      s.inMask f.sender = false → ∃ t, exec (.arrival p bytes e) s = .next t ∧ s.OnlyLink t
      ∧ t.link.paths.get p
          = { s.link.paths.get p with foreign := satInc 65535 (s.link.paths.get p).foreign }
      ∧ t.link.paths.get p.other = s.link.paths.get p.other

/-- ARRIVAL of an accepted frame of a peer that meets no slot which takes it: the health count falls by 1; on a
path that was UP or DEGRADED the sender's entry has frame seen, the signature, and with another signature
EXCLUDED, and the clock has the sender's sync state; on a FAILED path nothing else changes. A QUERY asks for a STATUS,
but a second copy of the one last taken from the sender asks for nothing. A SAMPLE frame of the own signature whose
index lies n to 23,999 past that of the oldest of n open sets is EARLY, and 24,000 or more past it LATE: it is counted in the sender's entry, and sets authority misfit when the sender is the index authority. With no
set open, with another signature, and for a QUERY or STATUS nothing is counted and authority misfit stays. (The
model's choice: the order of the blocks at an arrival, log 15; an acquisition step that is due comes first, log
5.) -/
def Obligations.ArrivalAccepted : Prop :=
  ∀ (s : State) (p : Sys2Proof.Path) (bytes : List Byte) (f : Frame),
    s.clock.stepDue = none → s.inRun = true → (s.link.paths.get p).state ≠ .down →
    frameGood bytes false = true → s.schemeFrame bytes = true → parseFrame bytes = some f →
    s.inMask f.sender = true → s.isOwn f.sender = false →
    ((s.link.paths.get p).state = .failed → ∃ t, exec (.arrival p bytes false) s = .next t ∧ s.OnlyLink t
      ∧ (t.link.paths.get p).health = (s.link.paths.get p).health - 1)
    ∧ ((s.link.paths.get p).state ≠ .failed → s.evaluatesAfter f = false →
      ∃ t, exec (.arrival p bytes false) s = .next t
      ∧ (t.link.paths.get p).health = (s.link.paths.get p).health - 1
      ∧ (t.entry f.sender).frameSeen = true ∧ (t.entry f.sender).sig = some f.sig
      ∧ (f.sig = s.ownSig → (t.entry f.sender).state = (s.entry f.sender).state)
      ∧ (f.sig ≠ s.ownSig → (t.entry f.sender).state = .excluded ∧ (t.entry f.sender).good = 0)
      ∧ (f.body = .query → (s.entry f.sender).querySeen = false ∨ (s.entry f.sender).lastQuery ≠ some f.index →
          t.link.statusPending = true ∧ (t.entry f.sender).querySeen = true
          ∧ (t.entry f.sender).lastQuery = some f.index)
      ∧ (f.body ≠ .query
          ∨ ((s.entry f.sender).querySeen = true ∧ (s.entry f.sender).lastQuery = some f.index) →
          t.link.statusPending = s.link.statusPending ∧ (t.entry f.sender).querySeen = (s.entry f.sender).querySeen
          ∧ (t.entry f.sender).lastQuery = (s.entry f.sender).lastQuery)
      ∧ (∀ n, n ≠ f.sender → t.entry n = s.entry n)
      ∧ t.clock.codes.get f.sender = f.sync
      ∧ t.bay = s.bay ∧ t.replica = s.replica ∧ t.diff = s.diff ∧ t.trip = s.trip ∧ t.sup = s.sup
      ∧ t.ctl = s.ctl ∧ t.svc = s.svc ∧ t.asm.openSets = s.asm.openSets ∧ t.asm.history = s.asm.history
      ∧ t.asm = { s.asm with misfit := t.asm.misfit }
      ∧ (t.entry f.sender).dup = (s.entry f.sender).dup ∧ (t.entry f.sender).subst = (s.entry f.sender).subst
      ∧ (f.body.isSample = false ∨ f.sig ≠ s.ownSig ∨ s.asm.openSets = [] →
          t.asm.misfit = s.asm.misfit ∧ (t.entry f.sender).early = (s.entry f.sender).early
          ∧ (t.entry f.sender).late = (s.entry f.sender).late)
      ∧ ∀ o rest, f.body.isSample = true → f.sig = s.ownSig → s.asm.openSets = o :: rest → o.index < 48000 →
          let past := (f.index + 48000 - o.index) % 48000
          let authority := s.clock.authority = .peer f.sender
          s.asm.openSets.length ≤ past →
          (t.asm.misfit = true ↔ s.asm.misfit = true ∨ authority)
          ∧ (past ≤ 23999 → (t.entry f.sender).early = satInc 65535 (s.entry f.sender).early
              ∧ (t.entry f.sender).late = (s.entry f.sender).late)
          ∧ (24000 ≤ past → (t.entry f.sender).late = satInc 65535 (s.entry f.sender).late
              ∧ (t.entry f.sender).early = (s.entry f.sender).early))

/-- ARRIVAL of an accepted SAMPLE frame of the own signature whose set is open: an EMPTY slot is FILLED with the
contribution of the frame, with the path and the tick of its arrival; a FILLED one keeps its contribution, notes
a copy on the other path and counts DUP; a DAMAGED one stays; no other slot changes. When the set is the oldest
open one, and its slot took the frame, the complete sets then close; otherwise no set does. (The model's
choice: the order of the blocks at an arrival, log 15; a DAMAGED slot, log 16; an acquisition step that is
due comes first, log 5.) -/
def Obligations.ArrivalFillsSlot : Prop :=
  ∀ (s : State) (p : Sys2Proof.Path) (bytes : List Byte) (f : Frame) (o : OpenSet) (valid : Bool)
    (clamp : PerPhase Bool) (cur : PerPhase Int) (bay : BayInfo),
    s.clock.stepDue = none → s.inRun = true → s.pathGood p = true →
    frameGood bytes false = true → s.schemeFrame bytes = true → parseFrame bytes = some f →
    s.inMask f.sender = true → s.isOwn f.sender = false → f.sig = s.ownSig →
    f.body = .sample valid clamp cur bay → s.placement f.index = .inSet → s.findOpen f.index = some o →
    (o.slots.get f.sender).parityBad = false →
    let placed := fun t : State => ∃ u, t.findOpen f.index = some u
      ∧ (∀ n, n ≠ f.sender → u.slots.get n = o.slots.get n)
      ∧ t.asm.openSets.map OpenSet.index = s.asm.openSets.map OpenSet.index
      ∧ (∀ k, k ≠ f.index → t.findOpen k = s.findOpen k)
      ∧ ((o.slots.get f.sender).body = .empty →
          u.slots.get f.sender = ⟨.filled ⟨if valid then cur else .const 0, clamp, valid, f.sync, bay, some p,
            some s.clock.tick⟩ false, false⟩
          ∧ (t.entry f.sender).dup = (s.entry f.sender).dup
          ∧ t.asm.fit = (s.asm.fit || s.isAuthority f.sender))
      ∧ (∀ c other, (o.slots.get f.sender).body = .filled c other →
          u.slots.get f.sender = ⟨.filled c (other || c.path != some p), false⟩
          ∧ (t.entry f.sender).dup = satInc 65535 (s.entry f.sender).dup ∧ t.asm.fit = s.asm.fit)
      ∧ ((o.slots.get f.sender).body = .damaged → u.slots.get f.sender = o.slots.get f.sender)
      ∧ (t.entry f.sender).frameSeen = true ∧ t.asm.misfit = s.asm.misfit ∧ t.asm.history = s.asm.history
      ∧ t.diff = s.diff ∧ t.trip = s.trip ∧ t.replica = s.replica ∧ t.ctl = s.ctl ∧ t.bay = s.bay
      ∧ t.sup = s.sup ∧ t.svc = s.svc ∧ t.pins = s.pins ∧ t.health = s.health ∧ t.pending = s.pending
    ((∀ h ∈ s.asm.openSets.head?, h.index ≠ f.index) ∨ (o.slots.get f.sender).body = .damaged →
      ∃ t, exec (.arrival p bytes false) s = .next t ∧ placed t)
    ∧ ((∀ h ∈ s.asm.openSets.head?, h.index = f.index) → (o.slots.get f.sender).body ≠ .damaged →
      ∃ u, placed u ∧ u.clock = s.clock
        ∧ exec (.arrival p bytes false) s = .next ((u.closeComplete).clockTake f).driven)

/-- ARRIVAL of a frame that carries the own number: on a path that is UP or DEGRADED CONFLICT is raised at
once and every slot is BLOCKED and out of OPERATE; no roster entry and no path changes. On a FAILED path
nothing changes. (The model's choice: the order of the blocks at an arrival, log 15; an acquisition step
that is due comes first, log 5.) -/
def Obligations.OwnNumberHeard : Prop :=
  ∀ (s : State) (p : Sys2Proof.Path) (bytes : List Byte) (f : Frame),
    s.clock.stepDue = none → s.inRun = true → (s.link.paths.get p).state ≠ .down →
    frameGood bytes false = true → s.schemeFrame bytes = true → parseFrame bytes = some f →
    s.inMask f.sender = true → s.isOwn f.sender = true →
    ((s.link.paths.get p).state = .failed → ∃ t, exec (.arrival p bytes false) s = .next t ∧ s.OnlyLink t
      ∧ t.link = s.link)
    ∧ ((s.link.paths.get p).state ≠ .failed → s.roster.conflict = false → s.diff.BlockSafe →
      ∃ t, exec (.arrival p bytes false) s = .next t
      ∧ t.roster = { s.roster with conflictHeard := true, conflictFree := 0, conflict := true }
      ∧ t.out.alarms.conflict = true ∧ t.out.alarm = true ∧ t.out.protReady = false
      ∧ (∀ g, t.diff.blocked (t.diff.groups.get g) = true ∧ (t.diff.groups.get g).operate = false)
      ∧ t.diff.check.operate = false ∧ t.link = s.link ∧ t.asm = s.asm ∧ t.clock = s.clock ∧ t.bay = s.bay
      ∧ t.trip = s.trip ∧ t.ctl = s.ctl)

/-- LINK_UP_FALL makes an enabled path DOWN from any state with its slots emptied, its count held and a frame in
transmission cut off with a transmit error,
LINK_UP_RISE makes it DEGRADED at count 128 and in RUN sets QUERY pending, and TRANSMIT_END in RUN lets the
waiting SAMPLE frame begin, else the waiting non-sample frame, else nothing; the other path keeps its
state. A transmission that ends, or begins, signals no transmit error. (The model's choice: when TRANSMIT_END
comes, log 22; a frame in transmission has left its slot, log 29; how long a transmit error stands, log 44.) -/
def Obligations.PathEvents : Prop :=
  ∀ (s : State) (p : Sys2Proof.Path),
    (s.resetHeld = false → s.ctl.mode ≠ .halted → s.enabled p = true → s.pins.lup.get p = true → ∃ t, exec (.linkUpFall p) s = .next t
      ∧ t.link.paths.get p = { s.link.paths.get p with
          state := .down, line := false, sampleSlot := none, otherSlot := none, sending := none }
      ∧ t.link.paths.get p.other = s.link.paths.get p.other
      ∧ t.link.queryPending = s.link.queryPending ∧ t.link.statusPending = s.link.statusPending
      ∧ t.pins.lup = s.pins.lup.set p false ∧ t.out.alarms.path = true ∧ t.clock = s.clock ∧ t.bay = s.bay
      ∧ t.ctl = s.ctl ∧ t.svc = s.svc ∧ s.ProtectionKept t ∧ t.pending = s.pending
      ∧ ((s.link.paths.get p).sending ≠ none → t.out.txError.get p = true)
      ∧ ((s.link.paths.get p).sending = none → t.out.txError.get p = s.out.txError.get p)
      ∧ (t.out.txError.get p.other = true ↔
          s.out.txError.get p.other = true ∧ (s.link.paths.get p.other).sending = none))
    ∧ (s.resetHeld = false → s.ctl.mode ≠ .halted → s.enabled p = true → s.pins.lup.get p = false → ∃ t, exec (.linkUpRise p) s = .next t
      ∧ t.link.paths.get p = { s.link.paths.get p with state := .degraded, health := 128, line := true }
      ∧ t.link.paths.get p.other = s.link.paths.get p.other
      ∧ (t.link.queryPending = true ↔ s.link.queryPending = true ∨ s.ctl.mode = .run)
      ∧ t.pins.lup = s.pins.lup.set p true ∧ t.clock = s.clock ∧ t.bay = s.bay ∧ t.ctl = s.ctl
      ∧ t.svc = s.svc ∧ s.ProtectionKept t ∧ t.pending = s.pending)
    ∧ (∀ x : FrameClass × List Byte, s.inRun = true → (s.link.paths.get p).sending = some x →
      ∃ t, exec (.transmitEnd p) s = .next t ∧ s.OnlyLink t
      ∧ t.link.paths.get p.other = s.link.paths.get p.other
      ∧ (∀ q, s.out.txError.get q = false → t.out.txError.get q = false)
      ∧ (∀ f, (s.link.paths.get p).sampleSlot = some f → t.link.paths.get p
          = { s.link.paths.get p with sampleSlot := none, sending := some (.sample, f) })
      ∧ (∀ f, (s.link.paths.get p).sampleSlot = none → (s.link.paths.get p).otherSlot = some f →
          t.link.paths.get p = { s.link.paths.get p with otherSlot := none, sending := some (.other, f) })
      ∧ ((s.link.paths.get p).sampleSlot = none → (s.link.paths.get p).otherSlot = none →
          t.link.paths.get p = { s.link.paths.get p with sending := none }))

/-- A receiver that runs the CRC over any bytes with their FCS after them ends with the residue
C704DD7Bh. -/
def Obligations.FcsResidue : Prop := ∀ bytes : List Byte, crc32 (bytes ++ fcsOf bytes) = 0xC704DD7B#32

/-- Each frame that the station builds passes steps 1 to 3 of every station with the same group address and link
type and is read there as what it was built from: the SAMPLE frame of a record; the QUERY; the STATUS, whose
protection state is FAULTED while FAULT is set, else ACTIVE while PROT READY is asserted and BLOCKED otherwise, and
whose LIVE mask has the bit of each LIVE station. In RUN the record's SAMPLE frame is placed on each path that is
not DOWN, and with it one pending request is served, a QUERY before a STATUS; a path that sends nothing begins the
SAMPLE frame. (The model's choice: a frame in transmission has left its slot, log 29.) -/
def Obligations.SampleFrameRoundTrip : Prop :=
  (∀ (s : State) (n : Station), s.own = some n → s.blockBytes.length = 58 →
    let accepted := fun (payload : List Byte) (f : Frame) =>
      frameGood (wireFrame s.header payload) false = true ∧ s.schemeFrame (wireFrame s.header payload) = true
      ∧ parseFrame (wireFrame s.header payload) = some f
    let described := (descOf (byteAt s.blockBytes 18) (byteAt s.blockBytes 19) (byteAt s.blockBytes 20)).isSome
    (∀ r : OwnRecord, described = true → r.index < 48000 →
      (-32767 ≤ r.cur.l1 ∧ r.cur.l1 ≤ 32767) → (-32767 ≤ r.cur.l2 ∧ r.cur.l2 ≤ 32767) →
      (-32767 ≤ r.cur.l3 ∧ r.cur.l3 ≤ 32767) → (r.valid = false → r.cur = .const 0) →
      (∀ z ∈ s.trip.bfRequest, ZoneSet.nonempty z = true) →
      accepted (s.samplePayload r)
        { sender := n, index := r.index, sync := s.clock.sync, sig := s.ownSig,
          body := .sample r.valid r.clamp r.cur ⟨s.ownDesc, r.states, s.trip.bfRequest, s.trip.state⟩ })
    ∧ (s.clock.index < 48000 →
      accepted s.queryPayload
        { sender := n, index := s.clock.index, sync := s.clock.sync, sig := s.ownSig, body := .query })
    ∧ (s.clock.index < 48000 → described = true → s.link.paths.a.health ≤ 255 → s.link.paths.b.health ≤ 255 →
      accepted s.statusPayload
        { sender := n, index := s.clock.index, sync := s.clock.sync, sig := s.ownSig,
          body := .status s.protState s.ownDesc s.roster.liveMask s.authorityNum s.link.paths.a.health
            s.link.paths.b.health })
    ∧ (s.protState = .faulted ↔ s.diff.fault = true)
    ∧ (s.protState = .active ↔ s.diff.fault = false ∧ s.protReadyOut = true)
    ∧ (∀ m : Station, s.roster.liveMask.getLsbD m.val = s.live m)
    ∧ (s.clock.authority = .none → s.authorityNum = 0) ∧ (s.clock.authority = .self → s.authorityNum = n.val + 1)
    ∧ ∀ m, s.clock.authority = .peer m → s.authorityNum = m.val + 1)
  ∧ ∀ (s : State) (r : OwnRecord), s.ctl.mode = .run →
    let t := s.sendRecord r
    let other := if s.link.queryPending then some (wireFrame s.header s.queryPayload)
      else if s.link.statusPending then some (wireFrame s.header s.statusPayload) else none
    t = { s with link := t.link } ∧ t.link.queryPending = false
    ∧ (t.link.statusPending = true ↔ s.link.statusPending = true ∧ s.link.queryPending = true)
    ∧ ∀ p, (t.link.paths.get p).state = (s.link.paths.get p).state
      ∧ (t.link.paths.get p).health = (s.link.paths.get p).health
      ∧ ((s.link.paths.get p).state ≠ .down →
        (t.link.paths.get p).otherSlot = other.or (s.link.paths.get p).otherSlot
        ∧ ((s.link.paths.get p).sending = none → (t.link.paths.get p).sampleSlot = none
            ∧ (t.link.paths.get p).sending = some (.sample, wireFrame s.header (s.samplePayload r)))
        ∧ ∀ x, (s.link.paths.get p).sending = some x → (t.link.paths.get p).sending = some x
            ∧ (t.link.paths.get p).sampleSlot = some (wireFrame s.header (s.samplePayload r)))

/-! ## The roster -/

/-- CONFLICT at a closure in RUN: with conflict heard set it is cleared and the conflict-free run is 0; with it
clear the run grows by one, and at 2,400 CONFLICT is cleared, the run is 0 and the block reason withdrawn, so that
CONFLICT ends at the 2,400th closure in a row without the own number and at no earlier one; while CONFLICT is clear
nothing of it changes. PEER_SILENT makes a JOINING or LIVE peer with a missed run of 24 SILENT with its view-mismatch
run at 0, and CONFLICT_CLEAR ends CONFLICT and its block reason after 2,400 conflict-free closures; nothing else
changes. (The model's choice: the rows take thresholds that stand reached, log 4.) -/
def Obligations.RosterExpiries : Prop :=
  (∀ s : State, s.ctl.mode = .run →
    let r := s.roster
    let t := s.rosterClosure
    (r.conflict = false → t.roster.conflict = false ∧ t.roster.conflictHeard = r.conflictHeard
        ∧ t.roster.conflictFree = r.conflictFree ∧ t.diff = s.diff)
    ∧ (r.conflict = true → r.conflictHeard = true → t.roster.conflict = true ∧ t.roster.conflictHeard = false
        ∧ t.roster.conflictFree = 0 ∧ t.diff = s.diff)
    ∧ (r.conflict = true → r.conflictHeard = false → t.roster.conflictHeard = false
        ∧ (r.conflictFree + 1 < 2400 → t.roster.conflict = true ∧ t.roster.conflictFree = r.conflictFree + 1
            ∧ t.diff = s.diff)
        ∧ (2400 ≤ r.conflictFree + 1 → t.roster.conflict = false ∧ t.roster.conflictFree = 0
            ∧ t.diff = { s.diff with conflict := false }))
    ∧ (r.conflict = true → r.conflictHeard = false → r.conflictFree = 0 → ∀ n, n ≤ 2400 →
        (State.rosterClosure^[n] s).roster.conflict = decide (n < 2400))
    ∧ t.clock = s.clock ∧ t.link = s.link ∧ t.asm = s.asm ∧ t.replica = s.replica ∧ t.trip = s.trip ∧ t.sup = s.sup
    ∧ t.ctl = s.ctl)
  ∧ ∀ s : State, s.inRun = true →
    (∀ n : Station, s.isOwn n = false → (s.entry n).state = .joining ∨ (s.entry n).state = .live →
      24 ≤ (s.entry n).missed → ∃ t, exec (.peerSilent n) s = .next t
        ∧ (t.entry n).state = .silent ∧ (t.entry n).viewRun = 0 ∧ (t.entry n).missed = (s.entry n).missed
        ∧ (∀ m, m ≠ n → t.entry m = s.entry m)
        ∧ t = { s with roster := { s.roster with entries := t.roster.entries }, out := t.out })
    ∧ (s.roster.conflict = true → 2400 ≤ s.roster.conflictFree → ∃ t, exec .conflictClear s = .next t
        ∧ t = { s with
            roster := { s.roster with conflict := false, conflictFree := 0 }
            diff := { s.diff with conflict := false }
            out := t.out })

/-- At a closure in RUN every peer entry follows the table of R59 by its state and its frame seen flag, which is
then cleared with QUERY seen and STATUS seen; the own entry stays. A peer that was ABSENT and whose frames, with the
own signature, are seen at every closure is JOINING for 47 closures and LIVE at the 48th; a LIVE peer that is not
heard is SILENT at the 24th closure and not before. -/
def Obligations.PeerStateRuns : Prop :=
  (∀ (s : State) (n : Station), s.ctl.mode = .run →
    s.rosterClosure.entry n = if s.isOwn n then s.entry n else (s.entry n).closure s.ownSig)
  ∧ (∀ (e : Entry) (sig : BitVec 16),
    let t := e.closure sig
    let matched := e.frameSeen = true ∧ e.sig = some sig
    t.frameSeen = false ∧ t.querySeen = false ∧ t.statusSeen = false
    ∧ (e.state = .absent ∨ e.state = .excluded ∨ e.state = .silent → matched →
        t.state = .joining ∧ t.good = 1 ∧ t.missed = 0)
    ∧ (e.state = .absent ∨ e.state = .excluded → ¬matched → t.state = e.state ∧ t.good = 0 ∧ t.missed = 0)
    ∧ (e.state = .silent → e.frameSeen = false →
        t.state = .silent ∧ t.good = e.good ∧ t.missed = satInc 255 e.missed)
    ∧ (e.state = .joining → e.frameSeen = true → t.good = satInc 65535 e.good ∧ t.missed = 0
        ∧ t.state = if 47 ≤ e.good then .live else .joining)
    ∧ (e.state = .live → e.frameSeen = true → t.state = .live ∧ t.good = satInc 65535 e.good ∧ t.missed = 0)
    ∧ (e.state = .joining ∨ e.state = .live → e.frameSeen = false → t.good = 0 ∧ t.missed = satInc 255 e.missed
        ∧ t.state = if 23 ≤ e.missed then .silent else e.state)
    ∧ (e.state = .live → t.state ≠ .live → t.viewRun = 0)
    ∧ t = { e with
        state := t.state, good := t.good, missed := t.missed, viewRun := t.viewRun, frameSeen := false
        querySeen := false, statusSeen := false, liveAtClosure := t.liveAtClosure
        excludedBefore := t.excludedBefore })
  ∧ (∀ (e : Entry) (sig : BitVec 16), e.state = .absent → e.sig = some sig → ∀ n, 1 ≤ n →
    ((fun x : Entry => { x with frameSeen := true }.closure sig)^[n] e).state
      = if n < 48 then .joining else .live)
  ∧ ∀ (e : Entry) (sig : BitVec 16), e.state = .live → e.missed = 0 → e.frameSeen = false → ∀ n,
    ((fun x : Entry => x.closure sig)^[n] e).state = if n < 24 then .live else .silent

/-- A first copy of a STATUS of station n leaves its record as the last STATUS, with agreement exactly when the
carried mask and the own LIVE mask are equal in every bit but n's and the own; a second copy leaves the last STATUS
and VIEW. The view-mismatch run of a sender that stays LIVE becomes 0 on agreement and else grows by one up to 3.
VIEW is raised when that run reaches 3, and cleared at a first copy or at a closure in RUN when every LIVE peer's
run is 0. -/
def Obligations.StatusAgreement : Prop :=
  (∀ (s : State) (p : Sys2Proof.Path) (f : Frame) (prot : ProtState) (desc : BayDesc) (mask : BitVec 24)
    (auth ha hb : Nat), f.body = .status prot desc mask auth ha hb →
    let t := s.rosterTake p f
    let quiet := ∀ m, s.isOwn m = false → t.live m = true → (t.entry m).viewRun = 0
    ((s.entry f.sender).statusSecond f = false →
      ∃ r, (t.entry f.sender).lastStatus = some r
        ∧ r.index = f.index ∧ r.sync = f.sync ∧ r.prot = prot ∧ r.liveMask = mask ∧ r.authority = auth
        ∧ r.healthA = ha ∧ r.healthB = hb ∧ r.path = p ∧ r.tick = s.clock.tick
        ∧ (t.entry f.sender).statusSeen = true
        ∧ (r.agrees = true ↔ ∀ n : Station, n ≠ f.sender → s.own ≠ some n → mask.getLsbD n.val = s.live n)
        ∧ (s.live f.sender = true → f.sig = s.ownSig → (t.entry f.sender).viewRun
            = if r.agrees then 0 else min 3 ((s.entry f.sender).viewRun + 1))
        ∧ (s.live f.sender = false → f.sig = s.ownSig → (t.entry f.sender).viewRun = (s.entry f.sender).viewRun)
        ∧ (f.sig ≠ s.ownSig → (t.entry f.sender).viewRun = 0 ∧ t.live f.sender = false)
        ∧ (s.roster.view = false →
            (t.roster.view = true ↔ t.live f.sender = true ∧ 3 ≤ (t.entry f.sender).viewRun))
        ∧ (s.roster.view = true → (t.roster.view = false ↔ quiet)))
    ∧ ((s.entry f.sender).statusSecond f = true →
        (t.entry f.sender).lastStatus = (s.entry f.sender).lastStatus ∧ t.roster.view = s.roster.view)
    ∧ ∀ n, n ≠ f.sender → t.entry n = s.entry n)
  ∧ ∀ s : State, s.ctl.mode = .run →
    let t := s.rosterClosure
    (s.roster.view = false → t.roster.view = false)
    ∧ (s.roster.view = true →
        (t.roster.view = false ↔ ∀ m, s.isOwn m = false → t.live m = true → (t.entry m).viewRun = 0))

/-! ## Sample-set assembly -/

/-- SET_DEADLINE with sound storage: the oldest open set, whose deadline is reached, closes and enters the
history, and the sets behind it close in index order one after the other: each of them is complete when its turn
comes, and the set that is then the oldest open one is not complete. A set is complete when every population slot
is DAMAGED, or FILLED with the own contribution, with its other-path copy noted, or with the other path neither UP
nor DEGRADED. The mode stays. A closure adds to a path 8 for each peer that was LIVE at the last closure and whose slot
the other path alone filled, both paths being UP or DEGRADED, and the path state follows the count; it counts SUBST
of each station whose slot settles SUBSTITUTED, and replaces the last-bay record of each station whose slot was
FILLED. With sound storage the closure of the oldest open set is, in this order: settling, the roster, the clock, the
replica with the changes it hands on, steps 1 to 6 of the Differential Unit, the datapath check, the own current sums,
the peers' requests, breaker failure, the causes and the demand from what the Differential Unit handed, TRIP or in TEST
the test trip, the trip state, and the recheck count; what completes behind it closes by closures of the same kind.
(The model's choice: an acquisition step that is due comes first, log 5; the order of the blocks in a closure, log 13; the
charges of one closure are judged together, log 14.) -/
def Obligations.SetDeadline : Prop :=
  (∀ (s : State) (o : OpenSet) (rest : List OpenSet), s.working = true → s.clock.stepDue = none →
    s.sound = true → s.asm.openSets = o :: rest →
    s.ta ≤ ahead s.clock.index o.index → ahead s.clock.index o.index < 24000 →
    ∃ n, 1 ≤ n ∧ n ≤ s.asm.openSets.length
      ∧ exec .setDeadline s = .next (State.closeHead^[n] s).driven
      ∧ (∀ i, 1 ≤ i → i < n → (State.closeHead^[i] s).headComplete = true)
      ∧ (State.closeHead^[n] s).headComplete = false
      ∧ ∀ i, 1 ≤ i → i ≤ n → let t := State.closeHead^[i] s
        t.asm.openSets = s.asm.openSets.drop i
        ∧ t.asm.history.map ClosedSet.index
            = (((s.asm.openSets.take i).map OpenSet.index).reverse ++ s.asm.history.map ClosedSet.index).take 48
        ∧ t.ctl.mode = s.ctl.mode ∧ t.sup.fault = s.sup.fault ∧ t.clock.index = s.clock.index ∧ t.bay = s.bay)
  ∧ (∀ (s : State) (o : OpenSet) (rest : List OpenSet), s.working = true → s.asm.openSets = o :: rest →
    (s.headComplete = true ↔ ∀ n, s.inPop n = true → (o.slots.get n).body = .damaged
      ∨ ∃ c other, (o.slots.get n).body = .filled c other
        ∧ (s.isOwn n = true ∨ other = true ∨ c.path = none
          ∨ ∃ p, c.path = some p ∧ (s.link.paths.get p.other).state ≠ .up
              ∧ (s.link.paths.get p.other).state ≠ .degraded)))
  ∧ (∀ (s : State) (o : OpenSet) (rest : List OpenSet), s.working = true → s.sound = true →
    s.asm.openSets = o :: rest →
    let k := o.index
    let c := s.closedSet o
    let a := (s.settle o).rosterClosure.clockClosure s.asm.fit s.asm.misfit
    let r := a.replicaNext k
    let put := fun (u : State) (t : Trip) => { u with trip := t, ctl := { u.ctl with tripReported := t.output } }
    let d1 := State.diffReasons { a with replica := r.1 }
    let d2 := { d1 with diff := { d1.diff with
      groups := .ofFn fun g => d1.groupWindow r.2 c g
      latches := .ofFn fun g => d1.groupLatch r.2 a.diff.latches g } }
    let d4 := (d2.diffCheck r.2 c).diffMissing
    let d6 := (d4.diffLatches (.ofFn fun g => (d2.diff.groups.get g).operate)).diffEvaluate
    let handed : Handed := ⟨.ofFn fun g => (d6.diff.groups.get g).operate, .ofFn fun g => (d6.diff.groups.get g).phases,
      d6.diff.check.operate, d6.diff.check.phases⟩
    let t0 := d6.datapathCheck k
    let t1 := put t0 t0.tripSums
    let t2 := put t1 (t1.tripRequests k)
    let t3 := put t2 t2.tripBf
    let t4 := put t3 (t3.tripCauses handed)
    let test := decide (s.ctl.mode = .test)
    s.closureWork o = put t4 ((t4.tripOutput handed test k).setState test)
    ∧ s.closeHead = (s.closureWork o).recheckClosure ∧ (s.closureWork o).ctl.mode = s.ctl.mode)
  ∧ (∀ s : State, ∃ n, n ≤ s.asm.openSets.length ∧ s.closeComplete = State.closeHead^[n] s
      ∧ (∀ i, i < n → (State.closeHead^[i] s).headComplete = true) ∧ (State.closeHead^[n] s).headComplete = false)
  ∧ ∀ (s : State) (o : OpenSet), s.sound = true → o ∈ s.asm.openSets →
    let t := s.settle o
    let good := fun p => (s.link.paths.get p).state = .up ∨ (s.link.paths.get p).state = .degraded
    let charged := fun (p : Sys2Proof.Path) (n : Station) => s.inPop n = true ∧ s.isOwn n = false
      ∧ (s.entry n).liveAtClosure = true ∧ good p ∧ good p.other
      ∧ ∃ c, (o.slots.get n).body = .filled c false ∧ c.path = some p.other
    (∀ p, ((∀ n, ¬charged p n) → t.link.paths.get p = s.link.paths.get p)
      ∧ ∀ ns : List Station, ns ≠ [] → ns.Nodup → (∀ n, n ∈ ns ↔ charged p n) →
        let count := min 255 ((s.link.paths.get p).health + 8 * ns.length)
        t.link.paths.get p = { s.link.paths.get p with
          health := count, state := if 255 ≤ count then .failed else if 96 ≤ count then .degraded else .up })
    ∧ t.link.queryPending = s.link.queryPending ∧ t.link.statusPending = s.link.statusPending
    ∧ t.asm.history.head? = some (s.closedSet o)
    ∧ (∀ n, t.entry n = if ((s.closedSet o).slots.get n).status = some .substituted
        then { s.entry n with subst := satInc 65535 (s.entry n).subst } else s.entry n)
    ∧ (∀ n c other, s.inPop n = true → (o.slots.get n).body = .filled c other → t.asm.lastBay.get n = some c.bay)
    ∧ (∀ n, s.inPop n = false ∨ (o.slots.get n).body = .empty ∨ (o.slots.get n).body = .damaged →
        t.asm.lastBay.get n = s.asm.lastBay.get n)
    ∧ t.ctl = s.ctl ∧ t.clock = s.clock ∧ t.replica = s.replica ∧ t.diff = s.diff ∧ t.trip = s.trip ∧ t.sup = s.sup

/-- The final status of a population slot and what it carries, by the rows of R83 and R84; a substitution is
granted exactly when the gap run is 0 or 1, fewer than 4 marks are held, and set k − N is in the history with a
REAL slot of the station read without a parity error. The closed set carries the own-sync flag when the own slot is
MISSING for its sync state; the gap run and the marks follow the final status. -/
def Obligations.SettlingTable : Prop :=
  (∀ (s : State) (k : Nat) (n : Station),
    s.settleSlot k n .damaged = ⟨some .missing, none, false⟩
    ∧ (∀ c other, c.sync.acceptable = false →
        s.settleSlot k n (.filled c other) = ⟨some .missing, some c, false⟩)
    ∧ (∀ c other, c.sync.acceptable = true → c.valid = true →
        (s.entry n).state = .live ∨ (s.entry n).state = .joining →
        s.settleSlot k n (.filled c other) = ⟨some .real, some c, false⟩)
    ∧ (∀ c other, (s.entry n).state ≠ .live → (s.entry n).state ≠ .joining →
        s.settleSlot k n (.filled c other) = ⟨some .missing, some c, false⟩)
    ∧ (∀ c other, c.sync.acceptable = true → c.valid = false →
        (s.entry n).state = .live ∨ (s.entry n).state = .joining →
        (s.grant k n = none → s.settleSlot k n (.filled c other) = ⟨some .missing, some c, false⟩)
        ∧ ∀ src, s.grant k n = some src → s.settleSlot k n (.filled c other)
            = ⟨some .substituted, some { c with cur := src.cur, clamp := src.clamp, valid := true }, false⟩)
    ∧ ((s.entry n).state ≠ .live → s.settleSlot k n .empty = ⟨some .missing, none, false⟩)
    ∧ ((s.entry n).state = .live → (s.isOwn n = true → s.clock.sync.acceptable = true) →
        (s.grant k n = none → s.settleSlot k n .empty = ⟨some .missing, none, false⟩)
        ∧ ∀ src, s.grant k n = some src → s.settleSlot k n .empty
            = ⟨some .substituted,
                some { src with bay := (s.asm.lastBay.get n).getD src.bay, valid := true, path := none, tick := none },
                false⟩)
    ∧ (s.isOwn n = true → s.clock.sync.acceptable = false →
        s.settleSlot k n .empty = ⟨some .missing, none, false⟩)
    ∧ (k < 48000 → ∀ src, s.grant k n = some src ↔ s.asm.gap.get n ≤ 1 ∧ (s.asm.marks.get n).count true < 4
        ∧ ∃ c, s.asm.history.find? (fun h => h.index == (k + 48000 - if s.set8 2 = 60 then 40 else 48) % 48000) = some c
          ∧ (c.slots.get n).status = some .real ∧ (c.slots.get n).parityBad = false
          ∧ (c.slots.get n).contr = some src))
  ∧ ∀ (s : State) (o : OpenSet) (n : Station), s.inPop n = true →
    let t := s.assemblerAfter o
    let c := (s.closedSet o).slots.get n
    ((o.slots.get n).parityBad = false → c = s.settleSlot o.index n (o.slots.get n).body)
    ∧ ((o.slots.get n).parityBad = true → c = s.settleSlot o.index n .damaged)
    ∧ t.gap.get n = (if c.status = some .real then 0 else min 255 (s.asm.gap.get n + 1))
    ∧ t.marks.get n = (c.status == some .substituted) :: (s.asm.marks.get n).take 47
    ∧ (s.own = some n → ((s.closedSet o).ownSync = true ↔ (o.slots.get n).parityBad = false
        ∧ (((o.slots.get n).body = .empty ∧ s.clock.sync.acceptable = false)
          ∨ ∃ x other, (o.slots.get n).body = .filled x other ∧ x.sync.acceptable = false)))

/-! ## The zone replica -/

/-- What the replica knows of a station after steps 2 to 4 of a closure: a peer's description, states and open-run
are discarded when it reads ABSENT or EXCLUDED or returns from EXCLUDED; a description carried by its usable slots
in sets k − 1 and k is confirmed, and a new one unconfirms the three points; a point that both slots carry with the
same state under the confirmed description is confirmed; the open-run of a tie runs while its breaker is confirmed
OPEN, and end-open is reached at Tend. END_OPEN: the breaker of a tie whose open-run has reached Tend becomes
end-open, and nothing else changes. (The model's choice: the row takes a threshold that stands reached, log 4.) -/
def Obligations.EndOpen : Prop :=
  (∀ (s : State) (n : Station) (d : BayDesc) (r : Nat), s.working = true →
    (s.replica.known.get n).desc = some d → d.kind = .tie →
    (s.replica.known.get n).openRun = some r → s.set8 21 ≤ r →
    ∃ t, exec (.endOpen n) s = .next t
      ∧ t.replica.known.get n = { s.replica.known.get n with endOpen := true }
      ∧ (∀ m, m ≠ n → t.replica.known.get m = s.replica.known.get m)
      ∧ t = { s with replica := { s.replica with known := t.replica.known }, out := t.out })
  ∧ (∀ (s : State) (k : Nat) (n : Station) (c : Contribution), s.usableAt k n = some c ↔
      ∃ h, s.asm.history.find? (fun x => x.index == k) = some h ∧ (h.slots.get n).parityBad = false
        ∧ (h.slots.get n).status ≠ none ∧ (h.slots.get n).contr = some c)
  ∧ ∀ (s : State) (k : Nat) (n : Station), k < 48000 →
    let e := s.entry n
    let base := if e.state = .absent ∨ e.state = .excluded ∨ e.excludedBefore = true then Known.initial
      else s.replica.known.get n
    let a := s.usableAt ((k + 47999) % 48000) n
    let b := s.usableAt k n
    let kn := s.describe k n
    let l := s.learn k n
    (s.inPop n = true → (s.learnAll k).get n = l)
    ∧ (s.inPop n = false → (s.learnAll k).get n = s.replica.known.get n)
    ∧ (s.isOwn n = true → kn = { s.replica.known.get n with desc := some s.ownDesc })
    ∧ (s.isOwn n = false →
        (∀ p c, a = some p → b = some c → p.bay.desc = c.bay.desc → base.desc ≠ some c.bay.desc →
          kn = ⟨some c.bay.desc, ⟨none, none, none⟩, none, false⟩)
        ∧ (¬(∃ p c, a = some p ∧ b = some c ∧ p.bay.desc = c.bay.desc ∧ base.desc ≠ some c.bay.desc) → kn = base))
    ∧ l.desc = kn.desc
    ∧ (∀ p c, a = some p → b = some c → kn.desc = some p.bay.desc → kn.desc = some c.bay.desc →
        ∀ d : Device, l.conf.get d = if p.bay.states.get d = c.bay.states.get d then some (c.bay.states.get d)
          else kn.conf.get d)
    ∧ (¬(∃ p c, a = some p ∧ b = some c ∧ kn.desc = some p.bay.desc ∧ kn.desc = some c.bay.desc) →
        l.conf = kn.conf)
    ∧ ((∃ d, l.desc = some d ∧ d.kind = .tie) → l.conf.breaker = some .opened →
        (kn.conf.breaker ≠ some .opened → l.openRun = some 0)
        ∧ (kn.conf.breaker = some .opened → l.openRun = kn.openRun.map fun r => min 48 (r + 1)))
    ∧ (¬((∃ d, l.desc = some d ∧ d.kind = .tie) ∧ l.conf.breaker = some .opened) → l.openRun = none)
    ∧ (l.endOpen = true ↔ ∃ r, l.openRun = some r ∧ s.set8 21 ≤ r)

/-- In the membership that any knowledge of the stations gives, a feeder is a member of at most one group,
with sign +1, and a tie of none or of exactly two different groups with opposite signs; no member list of a group
and no check list holds a station twice, each is in ascending station number and holds at most 24, and ties are never
in the check zone. A feeder of known attachment with an attached side is in
the group of that side's zone and in the check list; a tie of known attachment with sides attached to two groups
and a breaker that is not end-open is −1 in the group of side X and +1 in that of side Y; any other station is in
no list. Attachment is known of a population station that is the own or reads JOINING, LIVE or SILENT and whose
description is known. -/
def Obligations.MembershipShape : Prop :=
  ∀ (s : State) (known : Tab 24 Known) (n : Station),
    let m := s.membershipOf known
    let kn := known.get n
    let nowhere := (∀ g e, e ∈ m.members.get g → e.station ≠ n) ∧ n ∉ m.check
    (∀ g, ((m.members.get g).filter fun e => e.station == n).length ≤ 1)
    ∧ (m.check.filter fun e => e == n).length ≤ 1
    ∧ (∀ g, (m.members.get g).Pairwise (fun a b => a.station < b.station) ∧ (m.members.get g).length ≤ 24)
    ∧ m.check.Pairwise (fun a b => a < b) ∧ m.check.length ≤ 24
    ∧ (kn.isFeeder = true →
        (∀ g e, e ∈ m.members.get g → e.station = n → e.plus = true)
        ∧ ∀ g h e e', e ∈ m.members.get g → e' ∈ m.members.get h → e.station = n → e'.station = n → g = h)
    ∧ (kn.isTie = true →
        n ∉ m.check
        ∧ ((∀ g e, e ∈ m.members.get g → e.station ≠ n)
          ∨ ∃ g h, g ≠ h ∧ ⟨n, false⟩ ∈ m.members.get g ∧ ⟨n, true⟩ ∈ m.members.get h
              ∧ ∀ i e, e ∈ m.members.get i → e.station = n → i = g ∨ i = h))
    ∧ (s.attachKnown known n = true → kn.isFeeder = true →
        (∀ z, kn.sideX = some z ∨ kn.sideY = some z → ⟨n, true⟩ ∈ m.members.get (m.groupOf.get z) ∧ n ∈ m.check)
        ∧ (kn.sideX = none → kn.sideY = none → nowhere))
    ∧ (s.attachKnown known n = true → kn.isTie = true →
        (∀ x y, kn.sideX = some x → kn.sideY = some y → m.groupOf.get x ≠ m.groupOf.get y → kn.endOpen = false →
          ⟨n, false⟩ ∈ m.members.get (m.groupOf.get x) ∧ ⟨n, true⟩ ∈ m.members.get (m.groupOf.get y))
        ∧ ((∀ x y, kn.sideX = some x → kn.sideY = some y →
              m.groupOf.get x = m.groupOf.get y ∨ kn.endOpen = true) → nowhere))
    ∧ (s.attachKnown known n = false → nowhere)
    ∧ (s.attachKnown known n = true ↔ s.inPop n = true
        ∧ (s.isOwn n = true ∨ (s.entry n).state = .joining ∨ (s.entry n).state = .live ∨ (s.entry n).state = .silent)
        ∧ ∃ d, kn.desc = some d)
    ∧ (∀ z, kn.sideX = some z ↔ kn.conf.x ≠ some .opened ∧ ∃ d, kn.desc = some d ∧ d.zx = some z)
    ∧ (∀ z, kn.sideY = some z ↔ kn.conf.y ≠ some .opened ∧ ∃ d, kn.desc = some d ∧ d.zy = some z)

/-- Each group is named by the lowest zone it holds, and two zones are in one group exactly when a chain of
feeders of known attachment, each with both sides attached, leads from one to the other. UNKNOWN is requested for
the groups in use and the check zone while the attachment of a population station is unknown, NOT-LIVE where a
JOINING or SILENT station is a member. Against the reference membership a group in use is changed when its name was
not in use, its zones differ or its member list differs, and has as former groups those that held any of its zones;
a name no longer in use is dissolved; without a reference everything in use is changed and has no former group. -/
def Obligations.PartitionNames : Prop :=
  (∀ (s : State) (known : Tab 24 Known),
    (∀ z : Zone, (s.partition known).get ((s.partition known).get z) = (s.partition known).get z
      ∧ (s.partition known).get z ≤ z)
    ∧ (∀ (n : Station) (x y : Zone), s.attachKnown known n = true → (known.get n).isFeeder = true →
        (known.get n).sideX = some x → (known.get n).sideY = some y →
        (s.partition known).get x = (s.partition known).get y)
    ∧ ∀ x y : Zone, (s.partition known).get x = (s.partition known).get y ↔
        Relation.EqvGen (fun a b : Zone => ∃ n, s.attachKnown known n = true ∧ (known.get n).isFeeder = true
          ∧ (known.get n).sideX = some a ∧ (known.get n).sideY = some b) x y)
  ∧ (∀ (s : State) (known : Tab 24 Known) (m : Membership),
    let r := s.requestsOf known m
    let unknown := ∃ n, s.inPop n = true ∧ s.attachKnown known n = false
    let unsteady := fun n => s.isOwn n = false ∧ ((s.entry n).state = .joining ∨ (s.entry n).state = .silent)
    (∀ g, r.unknown.get g = true ↔ m.groupOf.get g = g ∧ unknown)
    ∧ (∀ g, r.notLive.get g = true ↔ m.groupOf.get g = g ∧ ∃ e ∈ m.members.get g, unsteady e.station)
    ∧ (r.checkUnknown = true ↔ unknown) ∧ (r.checkNotLive = true ↔ ∃ n ∈ m.check, unsteady n))
  ∧ (∀ (r : Replica) (m : Membership),
    let old := r.membership
    (∀ g, (r.changes m).changed.get g = true ↔ m.groupOf.get g = g
      ∧ (r.hasReference = false ∨ old.groupOf.get g ≠ g ∨ (∃ z, ¬(m.groupOf.get z = g ↔ old.groupOf.get z = g))
          ∨ m.members.get g ≠ old.members.get g))
    ∧ (∀ g, (r.changes m).dissolved.get g = true ↔
        r.hasReference = true ∧ old.groupOf.get g = g ∧ m.groupOf.get g ≠ g)
    ∧ (∀ g f, ((r.changes m).former.get g).get f = true ↔
        r.hasReference = true ∧ ∃ z, m.groupOf.get z = g ∧ old.groupOf.get z = f)
    ∧ ((r.changes m).check = true ↔ r.hasReference = false ∨ m.check ≠ old.check))
  ∧ ∀ (s : State) (k : Nat),
    let u := (s.replicaNext k).1
    u.known = s.learnAll k ∧ u.membership = s.membershipOf u.known ∧ u.membership.groupOf = s.partition u.known
    ∧ u.hasReference = true ∧ u.requests = s.requestsOf u.known u.membership
    ∧ (s.replicaNext k).2 = s.replica.changes u.membership
    ∧ ∀ n z, s.own = some n → (u.ownAttachment.get z = true ↔
        (u.known.get n).sideX = some z ∨ (u.known.get n).sideY = some z)

/-! ## The differential -/

/-- The term of a closed set under a member list: d is the magnitude of the signed sum of the members' values,
s the sum of their magnitudes, a MISSING member counting as 0 and making the term incomplete; d does not
exceed s, and with 24 members within ±32,767 s does not exceed 786,408. The members of the check zone are the stations
of the check list in its order, and their signs are all +1. -/
def Obligations.TermOfMembers : Prop :=
  (∀ (c : ClosedSet) (ms : List Member) (ph : Phase),
    (c.term ms).d.get ph = ((ms.map fun m : Member =>
        if m.plus then (((c.read m.station).value).getD (.const 0)).get ph
        else -(((c.read m.station).value).getD (.const 0)).get ph).sum).natAbs
    ∧ (c.term ms).s.get ph
        = (ms.map fun m : Member => ((((c.read m.station).value).getD (.const 0)).get ph).natAbs).sum
    ∧ ((c.term ms).incomplete = true ↔ ∃ m ∈ ms, (c.read m.station).value = none)
    ∧ (c.term ms).d.get ph ≤ (c.term ms).s.get ph
    ∧ (ms.length ≤ 24 →
        (∀ m ∈ ms, ((((c.read m.station).value).getD (.const 0)).get ph).natAbs ≤ 32767) →
        (c.term ms).s.get ph ≤ 786408))
  ∧ (∀ (m : Membership) (e : Member), e ∈ m.checkMembers → e.plus = true)
  ∧ (∀ m : Membership, m.checkMembers.map Member.station = m.check)

/-- The evidence run and the latch by the rows of R129, with the evidence of R128: some phase with
s ≥ Iext and 4 d ≤ s. -/
def Obligations.LatchTable : Prop :=
  (∀ (t : Term) (iext : Nat), t.evidence iext = true ↔
      (iext ≤ t.s.l1 ∧ 4 * t.d.l1 ≤ t.s.l1) ∨ (iext ≤ t.s.l2 ∧ 4 * t.d.l2 ≤ t.s.l2)
        ∨ (iext ≤ t.s.l3 ∧ 4 * t.d.l3 ≤ t.s.l3))
  ∧ ∀ (l : Latch) (operate : Bool) (iext thold : Nat) (t : Term), l.evidence ≤ 2 →
    (t.incomplete = true → l.advance operate iext thold (some t) = l)
    ∧ (t.incomplete = false → t.evidence iext = true →
        (l.advance operate iext thold (some t)).evidence = min 2 (l.evidence + 1)
        ∧ (l.latched = true → (l.advance operate iext thold (some t)).latched = true
            ∧ (l.advance operate iext thold (some t)).hold = thold)
        ∧ (l.latched = false →
            ((l.advance operate iext thold (some t)).latched = true ↔ 1 ≤ l.evidence ∧ operate = false)
            ∧ ((l.advance operate iext thold (some t)).latched = true →
                (l.advance operate iext thold (some t)).hold = thold)))
    ∧ (t.incomplete = false → t.evidence iext = false →
        (l.advance operate iext thold (some t)).evidence = 0
        ∧ (l.latched = false → (l.advance operate iext thold (some t)).latched = false)
        ∧ (l.latched = true → (l.advance operate iext thold (some t)).hold = l.hold - 1
            ∧ ((l.advance operate iext thold (some t)).latched = true ↔ 2 ≤ l.hold)))

/-- The operate counter of a slot in use: 0 when BLOCKED, else one more, up to Nop, when some phase meets the
condition, else 0, and 0 after a rebuild. OPERATE is set at the Nop-th closure in a row with the condition
and ends at the W-th in a row without it. -/
def Obligations.OperateRuns : Prop :=
  ∀ (t : Slot) (idmin w nop slope : Nat), 1 ≤ nop → 1 ≤ w → t.counter ≤ nop →
    ((t.evaluate true idmin w nop slope).counter = 0
      ∧ (t.evaluate true idmin w nop slope).operate = t.operate)
    ∧ ((t.condition idmin w slope).any = true →
        (t.evaluate false idmin w nop slope).counter = min nop (t.counter + 1))
    ∧ ((t.condition idmin w slope).any = false → (t.evaluate false idmin w nop slope).counter = 0)
    ∧ ((t.condition idmin w slope).any = true → t.counter = 0 → t.operate = false → ∀ n, 1 ≤ n →
        ((fun x : Slot => x.evaluate false idmin w nop slope)^[n] t).operate = decide (nop ≤ n)
        ∧ ((fun x : Slot => x.evaluate false idmin w nop slope)^[n] t).counter = min nop n)
    ∧ ((t.condition idmin w slope).any = false → t.dropOff = 0 → t.operate = true → ∀ n,
        ((fun x : Slot => x.evaluate false idmin w nop slope)^[n] t).operate = decide (n < w))
    ∧ ∀ (s : State) (ms : List Member), (s.rebuild t ms).counter = 0

/-- The operated phases of a slot in use after step 6: in a slot that is not BLOCKED, the phases with n = W, no
incomplete term, D ≥ Idmin × W and 64 D ≥ slope × S, the slope being kL for a latched group, k for another
and kc for the check zone; none in a BLOCKED slot, and none while D is 0 and Idmin is not. -/
def Obligations.OperateCondition : Prop :=
  ∀ (s : State) (ph : Phase),
    (∀ g : Zone, s.replica.membership.inUse g = true →
      ((((s.diffEvaluate.diff.groups.get g).phases.get ph) = true) ↔
        s.diff.blocked (s.diff.groups.get g) = false ∧ (s.diff.groups.get g).fill = s.windowW
        ∧ (s.diff.groups.get g).incomplete = 0 ∧ s.idmin * s.windowW ≤ (s.diff.groups.get g).sumD.get ph
        ∧ (if (s.diff.latches.get g).latched then s.slopeKL else s.slopeK) * (s.diff.groups.get g).sumS.get ph
            ≤ 64 * (s.diff.groups.get g).sumD.get ph))
    ∧ (s.diffEvaluate.diff.check.phases.get ph = true ↔
        s.diff.blocked s.diff.check = false ∧ s.diff.check.fill = s.windowW ∧ s.diff.check.incomplete = 0
        ∧ s.idmin * s.windowW ≤ s.diff.check.sumD.get ph
        ∧ s.slopeKc * s.diff.check.sumS.get ph ≤ 64 * s.diff.check.sumD.get ph)
    ∧ (∀ g : Zone, s.replica.membership.inUse g = true → 1 ≤ s.idmin → (s.diff.groups.get g).sumD.get ph = 0 →
      ((s.diffEvaluate.diff.groups.get g).phases.get ph) = false)
    ∧ (1 ≤ s.idmin → s.diff.check.sumD.get ph = 0 → s.diffEvaluate.diff.check.phases.get ph = false)

/-- The windows, latches and block reasons at a closure, with the two expiries. A rebuilt window holds the terms of
the most recent min(W, history count) sets under the new list, with the sums and counts of those terms, counter and
drop-off run 0 and OPERATE clear; an unchanged one appends the newest term and drops the oldest of W, its sums and
counts following, and its counter, drop-off run and OPERATE stay. The check-zone window is rebuilt under the check list
when that changed, and is otherwise updated with the newest term; at step 5 the latch of each group in use takes its
newest term, and at step 6 each slot in use is evaluated with the slope kL of a latched group, k of another and kc of
the check zone. A rebuilt
group is LATCHED when a former group was, with the largest hold counter of those; a dissolved one is released.
NOT-LIVE and UNKNOWN follow the requests, OWN-SYNC the flags of the most recent min(W, history count) sets, MISSING
the incomplete counts, and a slot that a reason then blocks loses OPERATE and its counter. HOLD_COUNTER_EXPIRY
clears LATCHED of a group whose hold counter stands at 0, and DROP_OFF_EXPIRY clears OPERATE of a slot whose
drop-off run stands at W; nothing else changes. (The model's choice: the rows take thresholds that stand reached,
log 4.) -/
def Obligations.DiffExpiries : Prop :=
  (∀ s : State, s.working = true →
    (∀ g : Zone, (s.diff.latches.get g).latched = true → (s.diff.latches.get g).hold = 0 →
      ∃ t, exec (.holdCounterExpiry g) s = .next t
        ∧ t.diff.latches.get g = { s.diff.latches.get g with latched := false }
        ∧ (∀ h, h ≠ g → t.diff.latches.get h = s.diff.latches.get h)
        ∧ t = { s with diff := { s.diff with latches := t.diff.latches }, out := t.out })
    ∧ (∀ g : Zone, (s.diff.groups.get g).operate = true → s.windowW ≤ (s.diff.groups.get g).dropOff →
      ∃ t, exec (.dropOffExpiry (.group g)) s = .next t
        ∧ t.diff.groups.get g = { s.diff.groups.get g with operate := false, dropOff := 0 }
        ∧ (∀ h, h ≠ g → t.diff.groups.get h = s.diff.groups.get h)
        ∧ t = { s with diff := { s.diff with groups := t.diff.groups }, out := t.out })
    ∧ (s.diff.check.operate = true → s.windowW ≤ s.diff.check.dropOff →
      ∃ t, exec (.dropOffExpiry .check) s = .next t
        ∧ t = { s with
            diff := { s.diff with check := { s.diff.check with operate := false, dropOff := 0 } }
            out := t.out }))
  ∧ (∀ (s : State) (t : Slot) (ms : List Member) (c : ClosedSet),
    let u := s.rebuild t ms
    (u.ring = ((s.asm.history.take s.windowW).reverse).map fun h => h.term ms)
    ∧ u.fill = min s.windowW s.asm.history.length
    ∧ (∀ ph, u.sumD.get ph = (u.ring.map fun e => e.d.get ph).sum)
    ∧ (∀ ph, u.sumS.get ph = (u.ring.map fun e => e.s.get ph).sum)
    ∧ u.incomplete = (u.ring.filter Term.incomplete).length
    ∧ u.counter = 0 ∧ u.dropOff = 0 ∧ u.operate = false ∧ u.phases = .const false
    ∧ (t.leavingBad s.windowW = false → (s.update t ms c).ring
        = (if s.windowW ≤ t.ring.length then t.ring.tail else t.ring) ++ [c.term ms])
    ∧ (t.leavingBad s.windowW = true → (s.update t ms c).ring = u.ring)
    ∧ (let v := s.update t ms c
      v.counter = t.counter ∧ v.dropOff = t.dropOff ∧ v.operate = t.operate ∧ v.phases = t.phases
      ∧ v.missing = t.missing ∧ v.notLive = t.notLive ∧ v.unknown = t.unknown
      ∧ (t.WindowSafe → v.fill = v.ring.length ∧ v.incomplete = (v.ring.filter Term.incomplete).length
          ∧ ∀ ph, v.sumD.get ph = (v.ring.map fun e => e.d.get ph).sum
            ∧ v.sumS.get ph = (v.ring.map fun e => e.s.get ph).sum)))
  ∧ (∀ (s : State) (ch : Changes) (c : ClosedSet),
    let ms := s.replica.membership.check.map fun n => (⟨n, true⟩ : Member)
    let reports := s.windowReports .check s.diff.check ms ch.check c
    let u := s.takeFaults reports
    s.diffCheck ch c = { u with
      diff := { u.diff with check := if ch.check then u.rebuild u.diff.check ms else u.update u.diff.check ms c } }
    ∧ (reports = [] → u = s))
  ∧ (∀ (s : State) (operate : Tab 4 Bool),
    let t := s.diffLatches operate
    t = { s with diff := { s.diff with latches := t.diff.latches } }
    ∧ ∀ g, (s.replica.membership.groupOf.get g = g → t.diff.latches.get g
          = (s.diff.latches.get g).advance (operate.get g) s.iext s.thold (s.diff.groups.get g).ring.getLast?)
      ∧ (s.replica.membership.groupOf.get g ≠ g → t.diff.latches.get g = s.diff.latches.get g))
  ∧ (∀ s : State,
    let t := s.diffEvaluate
    t = { s with diff := { s.diff with groups := t.diff.groups, check := t.diff.check } }
    ∧ (∀ g, (s.replica.membership.groupOf.get g = g → t.diff.groups.get g
          = (s.diff.groups.get g).evaluate (s.diff.blocked (s.diff.groups.get g)) s.idmin s.windowW s.nop
              (if (s.diff.latches.get g).latched then s.slopeKL else s.slopeK))
      ∧ (s.replica.membership.groupOf.get g ≠ g → t.diff.groups.get g = s.diff.groups.get g))
    ∧ t.diff.check = s.diff.check.evaluate (s.diff.blocked s.diff.check) s.idmin s.windowW s.nop s.slopeKc)
  ∧ (∀ (s : State) (ch : Changes) (c : ClosedSet) (old : Tab 4 Latch) (g : Zone),
    let w := s.groupWindow ch c g
    let l := s.groupLatch ch old g
    let held := fun f => (ch.former.get g).get f = true ∧ (old.get f).latched = true
    (ch.dissolved.get g = true → w = Slot.initial ∧ l = ⟨0, false, 0⟩)
    ∧ (ch.dissolved.get g = false → ch.changed.get g = true →
        w = s.rebuild (s.diff.groups.get g) (s.replica.membership.members.get g)
        ∧ l.evidence = 0 ∧ (l.latched = true ↔ ∃ f, held f) ∧ (∀ f, held f → (old.get f).hold ≤ l.hold)
        ∧ (l.latched = true → ∃ f, held f ∧ l.hold = (old.get f).hold) ∧ (l.latched = false → l.hold = 0))
    ∧ (ch.dissolved.get g = false → ch.changed.get g = false → l = s.diff.latches.get g
        ∧ w = if s.replica.membership.groupOf.get g = g
            then s.update (s.diff.groups.get g) (s.replica.membership.members.get g) c else s.diff.groups.get g))
  ∧ ∀ s : State,
    let u := s.diffReasons.diff
    let v := s.diffMissing.diff
    let kept := fun (a b : Slot) => b.ring = a.ring ∧ b.sumD = a.sumD ∧ b.sumS = a.sumS ∧ b.fill = a.fill
      ∧ b.incomplete = a.incomplete
    let blocks := fun (d e : Diff) (a b : Slot) =>
      (d.blocked a = false → e.blocked b = true → b.operate = false ∧ b.counter = 0 ∧ b.phases = .const false)
      ∧ (d.blocked a = true ∨ e.blocked b = false → b.operate = a.operate ∧ b.counter = a.counter)
    (u.ownSync = true ↔ ∃ c ∈ s.asm.history.take s.windowW, c.ownSync = true)
    ∧ (∀ g, (u.groups.get g).notLive = s.replica.requests.notLive.get g
        ∧ (u.groups.get g).unknown = s.replica.requests.unknown.get g
        ∧ (u.groups.get g).missing = (s.diff.groups.get g).missing
        ∧ kept (s.diff.groups.get g) (u.groups.get g) ∧ blocks s.diff u (s.diff.groups.get g) (u.groups.get g))
    ∧ u.check.notLive = s.replica.requests.checkNotLive ∧ u.check.unknown = s.replica.requests.checkUnknown
    ∧ u.check.missing = s.diff.check.missing ∧ kept s.diff.check u.check ∧ blocks s.diff u s.diff.check u.check
    ∧ u.conflict = s.diff.conflict ∧ u.fault = s.diff.fault ∧ u.latches = s.diff.latches
    ∧ (∀ g, ((v.groups.get g).missing = true ↔
          s.replica.membership.groupOf.get g = g ∧ 1 ≤ (s.diff.groups.get g).incomplete)
        ∧ (v.groups.get g).notLive = (s.diff.groups.get g).notLive
        ∧ (v.groups.get g).unknown = (s.diff.groups.get g).unknown
        ∧ kept (s.diff.groups.get g) (v.groups.get g) ∧ blocks s.diff v (s.diff.groups.get g) (v.groups.get g))
    ∧ (v.check.missing = true ↔ 1 ≤ s.diff.check.incomplete)
    ∧ kept s.diff.check v.check ∧ blocks s.diff v s.diff.check v.check
    ∧ v.ownSync = s.diff.ownSync ∧ v.conflict = s.diff.conflict ∧ v.fault = s.diff.fault
    ∧ v.latches = s.diff.latches

/-! ## Trip and breaker failure -/

/-- The own current sums of a closure are the sums of the magnitudes of the own slot's values in the most recent
min(W, history count) sets, known when W sets are held and none of the slots is MISSING. Breaker failure at a
closure: TIMING and FAILED end in IDLE with low current and the breaker open; else TIMING counts down and declares
at 0, and FAILED stays with its request. BF_TIMER_EXPIRY with the BF timer of TIMING at 0: breaker failure is
declared when the sums are unknown, a phase's sum is Ibf × W or more, or the breaker criterion is on and the
breaker is not open, with the own attachment as request when it is nonempty; otherwise the state is IDLE. MINIMUM_TIME_EXPIRY with the
minimum-time counter at 0 and no demand: in RUN TRIP, in TEST the test trip is deasserted, and the trip
state is NONE. (The model's choice: the rows take thresholds that stand reached, log 4; a MISSING slot adds 0 to
the sums, log 42.) -/
def Obligations.TripExpiries : Prop :=
  (∀ s : State, s.inRun = true → s.trip.bf = .timing → s.trip.bfTimer = 0 →
    ∃ t, exec .bfTimerExpiry s = .next t
      ∧ ((s.trip.sumsKnown = false ∨ s.ibf * s.windowW ≤ s.trip.ownSums.l1
            ∨ s.ibf * s.windowW ≤ s.trip.ownSums.l2 ∨ s.ibf * s.windowW ≤ s.trip.ownSums.l3
            ∨ (s.set8 42 = 1 ∧ s.breakerOpen = false)) →
          t.trip = { s.trip with
            bf := .failed, bfTimer := 0
            bfRequest := if s.replica.ownAttachment.nonempty then some s.replica.ownAttachment else none })
      ∧ (¬(s.trip.sumsKnown = false ∨ s.ibf * s.windowW ≤ s.trip.ownSums.l1
            ∨ s.ibf * s.windowW ≤ s.trip.ownSums.l2 ∨ s.ibf * s.windowW ≤ s.trip.ownSums.l3
            ∨ (s.set8 42 = 1 ∧ s.breakerOpen = false)) →
          t.trip = { s.trip with bf := .idle, bfTimer := 0 })
      ∧ t = { s with trip := t.trip, ctl := { s.ctl with tripReported := s.trip.output }, out := t.out })
  ∧ (∀ s : State, s.trip.minTime = 0 → s.trip.demand = false →
    (s.inRun = true → s.trip.output = true → ∃ t, exec .minimumTimeExpiry s = .next t
      ∧ t.trip = { s.trip with output := false, state := .none } ∧ t.out.tripLine = false
      ∧ t = { s with trip := t.trip, ctl := { s.ctl with tripReported := false }, out := t.out })
    ∧ (s.resetHeld = false → s.ctl.mode = .test → s.trip.testTrip = true →
      ∃ t, exec .minimumTimeExpiry s = .next t
        ∧ t.trip = { s.trip with testTrip := false, state := .none }
        ∧ t = { s with trip := t.trip, ctl := { s.ctl with tripReported := s.trip.output }, out := t.out }))
  ∧ (∀ (c : ClosedSet) (n : Station) (v : PerPhase Int), (c.read n).value = some v ↔
      (c.slots.get n).parityBad = false
        ∧ ((c.slots.get n).status = some .real ∨ (c.slots.get n).status = some .substituted)
        ∧ ∃ x, (c.slots.get n).contr = some x ∧ x.cur = v)
  ∧ (∀ (s : State) (n : Station), s.own = some n →
    let sets := s.asm.history.take s.windowW
    s.tripSums = { s.trip with ownSums := s.tripSums.ownSums, sumsKnown := s.tripSums.sumsKnown }
    ∧ (∀ ph, s.tripSums.ownSums.get ph
        = (sets.map fun c => ((((c.read n).value).getD (.const 0)).get ph).natAbs).sum)
    ∧ (s.tripSums.sumsKnown = true ↔ s.windowW ≤ s.asm.history.length ∧ ∀ c ∈ sets, (c.read n).value ≠ none)
    ∧ (s.breakerOpen = true ↔ (s.replica.known.get n).conf.breaker = some .opened))
  ∧ ∀ s : State,
    let low := s.trip.sumsKnown = true ∧ s.trip.ownSums.l1 < s.ibf * s.windowW
      ∧ s.trip.ownSums.l2 < s.ibf * s.windowW ∧ s.trip.ownSums.l3 < s.ibf * s.windowW
    let cleared := low ∧ s.breakerOpen = true
    let declares := ¬low ∨ (s.set8 42 = 1 ∧ s.breakerOpen = false)
    (s.trip.bf = .idle → s.tripBf = s.trip)
    ∧ (s.trip.bf = .timing →
        (cleared → s.tripBf = { s.trip with bf := .idle, bfTimer := 0 })
        ∧ (¬cleared → 2 ≤ s.trip.bfTimer → s.tripBf = { s.trip with bfTimer := s.trip.bfTimer - 1 })
        ∧ (¬cleared → s.trip.bfTimer ≤ 1 →
            (declares → s.tripBf = { s.trip with
              bf := .failed, bfTimer := 0
              bfRequest := if s.replica.ownAttachment.nonempty then some s.replica.ownAttachment else none })
            ∧ (¬declares → s.tripBf = { s.trip with bf := .idle, bfTimer := 0 })))
    ∧ (s.trip.bf = .failed →
        (cleared → s.tripBf = { s.trip with bf := .idle, bfRequest := none })
        ∧ (¬cleared → s.tripBf = s.trip))

/-- TRIP at a closure in RUN by the rows of R148, with the start of TIMING of R152: an assertion loads the
minimum time and writes the record, and a TRIP that is asserted is held until the counter is 0 without a
demand: without one, for as many closures as the counter says. The record holds the causes, the first of RETRIP,
INTERTRIP and ZONE as reported cause, the lowest attached group in OPERATE, else the lowest one that a request maps
to, with the phases handed for the closure, and the lowest requesting station. In TEST the same rows act on the
test trip, and no TIMING starts. -/
def Obligations.TripOutputTable : Prop :=
  ∀ (s : State) (h : Handed) (k : Nat),
    (s.trip.output = false → s.trip.demand = false → s.tripOutput h false k = s.trip)
    ∧ (s.trip.output = false → s.trip.demand = true →
        (s.tripOutput h false k).output = true ∧ (s.tripOutput h false k).minTime = s.tmin
        ∧ (s.tripOutput h false k).record = some (s.recordOf h false k)
        ∧ (s.trip.bf = .idle → (s.trip.causes.zone || s.trip.causes.intertrip) = true →
            (s.tripOutput h false k).bf = .timing ∧ (s.tripOutput h false k).bfTimer = s.tbf)
        ∧ (s.trip.bf ≠ .idle ∨ (s.trip.causes.zone || s.trip.causes.intertrip) = false →
            (s.tripOutput h false k).bf = s.trip.bf ∧ (s.tripOutput h false k).bfTimer = s.trip.bfTimer))
    ∧ (s.trip.output = true → s.trip.demand = true →
        s.tripOutput h false k = { s.trip with minTime := s.trip.minTime - 1 })
    ∧ (s.trip.output = true → s.trip.demand = false →
        (2 ≤ s.trip.minTime → s.tripOutput h false k = { s.trip with minTime := s.trip.minTime - 1 })
        ∧ (s.trip.minTime ≤ 1 → s.tripOutput h false k = { s.trip with minTime := 0, output := false }))
    ∧ (s.trip.output = true → s.trip.demand = false → 1 ≤ s.trip.minTime → ∀ n,
        ((fun t : Trip => ({ s with trip := t } : State).tripOutput h false k)^[n] s.trip).output
          = decide (n < s.trip.minTime))
    ∧ (∀ test : Bool, let r := s.recordOf h test k
        r.test = test ∧ r.index = k ∧ r.causes = s.trip.causes ∧ r.bf = s.trip.bf
        ∧ r.checkPhases = h.checkPhases
        ∧ (s.trip.causes.retrip = true → r.reported = .retrip)
        ∧ (s.trip.causes.retrip = false → s.trip.causes.intertrip = true → r.reported = .intertrip)
        ∧ (s.trip.causes.retrip = false → s.trip.causes.intertrip = false → s.trip.causes.zone = true →
            r.reported = .zone)
        ∧ (s.trip.causes.zone = true → ∀ g, r.group = some g ↔ (s.attachedGroup g = true ∧ h.groups.get g = true)
            ∧ ∀ f < g, ¬(s.attachedGroup f = true ∧ h.groups.get f = true))
        ∧ (s.trip.causes.zone = false → s.trip.causes.intertrip = true → ∀ g, r.group = some g ↔
            (∃ n, s.isPeer n = true ∧ s.requestMaps n g = true)
            ∧ ∀ f < g, ¬∃ n, s.isPeer n = true ∧ s.requestMaps n f = true)
        ∧ (s.trip.causes.zone = false → s.trip.causes.intertrip = false → r.group = none)
        ∧ (∀ g, r.group = some g → r.groupPhases = h.groupPhases.get g)
        ∧ (r.group = none → r.groupPhases = .const false)
        ∧ (s.trip.causes.intertrip = false → r.requester = 0)
        ∧ (s.trip.causes.intertrip = true → ∀ n, s.requesting n = true → (∀ m < n, s.requesting m = false) →
            r.requester = n.val + 1))
    ∧ (s.trip.testTrip = false → s.trip.demand = true → s.tripOutput h true k
        = { s.trip with testTrip := true, minTime := s.tmin, record := some (s.recordOf h true k) })
    ∧ (s.trip.testTrip = false → s.trip.demand = false → s.tripOutput h true k = s.trip)
    ∧ (s.trip.testTrip = true → s.tripOutput h true k
        = if s.trip.demand = false ∧ s.trip.minTime ≤ 1 then { s.trip with minTime := 0, testTrip := false }
          else { s.trip with minTime := s.trip.minTime - 1 })

/-- The trip state: NONE while TRIP is deasserted; while it is asserted with a demand the first present
cause of RETRIP, INTERTRIP, ZONE, which becomes the last demand cause; without a demand the last demand
cause. Codes 0 to 3 in frames. The causes: ZONE when the check zone and an attached group were handed in OPERATE,
INTERTRIP when a peer's confirmed request maps to an attached group, RETRIP in FAILED; the demand is there when a
cause is and BLOCK IN is INACTIVE. A peer's request is confirmed when a LIVE peer carries the same zone set in two
sets running, cleared when it is not LIVE or its REAL slot carries none, and kept otherwise. -/
def Obligations.TripStateTable : Prop :=
  (∀ t : Trip,
    (t.output = false → (t.setState false).state = .none)
    ∧ (t.output = true → t.demand = true →
        (t.causes.retrip = true → (t.setState false).state = .retrip)
        ∧ (t.causes.retrip = false → t.causes.intertrip = true → (t.setState false).state = .intertrip)
        ∧ (t.causes.retrip = false → t.causes.intertrip = false → t.causes.zone = true →
            (t.setState false).state = .zone)
        ∧ (t.setState false).lastCause = (t.setState false).state)
    ∧ (t.output = true → t.demand = false →
        (t.setState false).state = t.lastCause ∧ (t.setState false).lastCause = t.lastCause))
  ∧ (TripState.code .none = 0 ∧ TripState.code .zone = 1 ∧ TripState.code .intertrip = 2
    ∧ TripState.code .retrip = 3)
  ∧ (∀ (s : State) (h : Handed),
    let t := s.tripCauses h
    let m := s.replica.membership
    let attached := fun g => m.groupOf.get g = g ∧ ∃ z, s.replica.ownAttachment.get z = true ∧ m.groupOf.get z = g
    (∀ g, s.attachedGroup g = true ↔ attached g)
    ∧ (t.causes.zone = true ↔ h.check = true ∧ ∃ g, attached g ∧ h.groups.get g = true)
    ∧ (t.causes.intertrip = true ↔ ∃ n zs z, s.inPop n = true ∧ s.isOwn n = false
        ∧ s.trip.confirmed.get n = some zs ∧ zs.get z = true ∧ attached (m.groupOf.get z))
    ∧ (t.causes.retrip = true ↔ s.trip.bf = .failed)
    ∧ (t.demand = true ↔
        (t.causes.zone = true ∨ t.causes.intertrip = true ∨ t.causes.retrip = true) ∧ s.bay.blockIn.active = false)
    ∧ t = { s.trip with causes := t.causes, demand := t.demand })
  ∧ ∀ (s : State) (k : Nat) (n : Station), k < 48000 →
    let t := s.tripRequests k
    let now := s.carriedAt k n
    let before := if s.asm.history.any (fun h => h.index == (k + 47999) % 48000) then s.trip.carried.get n
      else Carried.unusable
    (s.usableAt k n = none → now = .unusable)
    ∧ (∀ c, s.usableAt k n = some c → (c.bay.bf = none → now = .absent)
        ∧ ∀ z, c.bay.bf = some z → now = .zones z)
    ∧ (s.isPeer n = false → t.confirmed.get n = s.trip.confirmed.get n ∧ t.carried.get n = s.trip.carried.get n)
    ∧ (s.isPeer n = true → t.carried.get n = now
        ∧ (s.live n = false → t.confirmed.get n = none)
        ∧ (s.live n = true →
          (∀ z, now = .zones z → t.confirmed.get n = if before = .zones z then some z else s.trip.confirmed.get n)
          ∧ (now = .unusable → t.confirmed.get n = s.trip.confirmed.get n)
          ∧ (now = .absent → t.confirmed.get n = if s.realAt k n then none else s.trip.confirmed.get n)))
    ∧ (s.realAt k n = true ↔ ∃ h, s.asm.history.find? (fun x => x.index == k) = some h
        ∧ (h.slots.get n).parityBad = false ∧ (h.slots.get n).status = some .real)

/-! ## Self-supervision -/

/-- The recheck count grows by one at each closure in RUN or TEST; at 2,400 it is 0 again and the CRC over bytes
0..55 of the stored block is compared with bytes 56..57: when they differ the station halts with CONFIG CORRUPT, and
otherwise nothing further happens. A closure that has not halted the station ends with this count; one whose work
has halted it leaves the sets, the roster, the replica and TRIP's latest closure as they were, with TRIP deasserted
and the records that its faults wrote. CONFIG_RECHECK with the recheck count at 2,400: the count restarts, and a
stored block that does not agree with its CRC halts the station with CONFIG CORRUPT and STATUS CODE 14. The datapath
check runs at the closure of a set whose index is 600 modulo 2,400: the mask advances modulo 16, and when some
phase's sums are not the checker's, with s = 25,892 and Σ of the four synthetic values under the mask, a DATAPATH
fault of the mask and the lowest failing phase is taken. (The model's choice: the row takes a threshold that stands
reached, log 4; the health of the datapath is the model's field, log 10; what entry to HALTED discards, log 12; the
recheck comes last in a closure, log 13; the index that a record holds between an acquisition step and the next
instant, log 38.) -/
def Obligations.ConfigRecheck : Prop :=
  (∀ s : State, s.working = true →
    let t := s.recheckClosure
    (s.sup.recheck + 1 < 2400 → t = { s with sup := { s.sup with recheck := s.sup.recheck + 1 } })
    ∧ (2400 ≤ s.sup.recheck + 1 →
        (blockCrcGood s.blockBytes = true → t = { s with sup := { s.sup with recheck := 0 } })
        ∧ (blockCrcGood s.blockBytes = false → t.ctl.mode = .halted
          ∧ t.sup = { s.sup with
              recheck := 0
              halt := some ⟨.configCorrupt, if s.clock.taken then some s.clock.index else none, s.ctl.mode, none⟩ }
          ∧ t.ctl.store = s.ctl.store ∧ t.ctl.block = s.ctl.block ∧ t.trip.output = false))
    ∧ (blockCrcGood s.blockBytes = true ↔ (crc16 (s.blockBytes.take 56)).toNat
        = byteAt s.blockBytes 56 + 256 * byteAt s.blockBytes 57)
    ∧ (blockCrcGood s.blockBytes = true → s.sup.recheck = 0 → ∀ n, n ≤ 2400 →
        (State.recheckClosure^[n] s).sup.recheck = n % 2400))
  ∧ (∀ (s : State) (o : OpenSet),
    ((s.closureWork o).ctl.mode ≠ .halted → s.closeSet o = (s.closureWork o).recheckClosure)
    ∧ (s.working = true → (s.closureWork o).ctl.mode = .halted →
      let t := s.closeSet o
      t.ctl.mode = .halted ∧ t.sup = (s.closureWork o).sup ∧ t.asm = s.asm ∧ t.roster = s.roster
      ∧ t.replica = s.replica ∧ t.svc = s.svc ∧ t.pins = s.pins
      ∧ t.trip = { s.trip with output := false, testTrip := false }
      ∧ (t.diff.fault = true ↔ s.diff.fault = true ∨ (s.closureWork o).diff.fault = true)
      ∧ t.diff.latches = s.diff.latches))
  ∧ (∀ s : State, s.working = true → 2400 ≤ s.sup.recheck →
    (blockCrcGood s.blockBytes = true → ∃ t, exec .configRecheck s = .next t
      ∧ t = { s with sup := { s.sup with recheck := 0 }, out := t.out })
    ∧ (blockCrcGood s.blockBytes = false → ∃ t, exec .configRecheck s = .next t
      ∧ t.ctl.mode = .halted ∧ t.out.statusCode = 14 ∧ t.out.tripLine = false ∧ t.out.protReady = false
      ∧ t.out.alarm = true
      ∧ t.sup.halt = some ⟨.configCorrupt, if s.clock.taken then some s.clock.index else none, s.ctl.mode, none⟩
      ∧ t.sup.fault = s.sup.fault ∧ t.ctl.block = s.ctl.block ∧ t.ctl.store = s.ctl.store))
  ∧ (∀ (s : State) (k : Nat), s.working = true →
    let mask := s.sup.invertMask
    let u := { s with sup := { s.sup with invertMask := (mask + 1) % 16 } }
    let bad := fun p : Phase => s.health.sums mask p ≠ checkerSums mask
    (k % 2400 ≠ 600 → s.datapathCheck k = s)
    ∧ (k % 2400 = 600 → (∀ p, ¬bad p) → s.datapathCheck k = u)
    ∧ (k % 2400 = 600 → ∀ p, bad p → (p ≠ .l1 → ¬bad .l1) → (p = .l3 → ¬bad .l2) →
        s.datapathCheck k = u.takeFault ⟨.datapath, .supervision,
          .datapath mask p (checkerSums mask).sigma (checkerSums mask).s (s.health.sums mask p)⟩))
  ∧ ∀ mask : Nat, (checkerSums mask).s = 25892
    ∧ (checkerSums mask).sigma = (if mask.testBit 0 then -945 else 945) + (if mask.testBit 1 then 4807 else -4807)
        + (if mask.testBit 2 then -12001 else 12001) + (if mask.testBit 3 then 8139 else -8139)
    ∧ (checkerSums mask).d = (checkerSums mask).sigma.natAbs

/-- A blocking fault in RUN or TEST: the first one writes the record and sets FAULT on every slot, or, when the
read-back of the record finds a parity error, halts the station with DOUBLE FAULT, a STORAGE fault of the fault
record as second fault and the record kept; the same one again counts a repeat alone; one after an acknowledgement
writes a new record; and a new one before it halts the station with DOUBLE FAULT and leaves the record. Parity
errors are STORAGE faults. An open slot read with one, by the own record, by a SAMPLE frame or at settling, becomes
DAMAGED, and the Set Assembler reports its set and station; a closed slot read with one is delivered as MISSING with
no contribution and reported in the same way, at each read of the substitution, the replica, the Differential Unit
and the Trip Unit; a ring entry read with one as it leaves is reported by the Differential Unit with the name of its
slot and the closing set, and the window is rebuilt from the history. (The model's choice: parity errors are flags
of the state, log 9; the read-back of the fault record, log 11; what entry to HALTED discards, log 12; the order of
the blocks at an arrival, log 15; the reads that report, log 16; the index that a record holds between an
acquisition step and the next instant, log 38.) -/
def Obligations.BlockingFaults : Prop :=
  let openFault := fun (k : Nat) (n : Station) => (⟨.storage, .assembler, .slot k n false⟩ : FaultReport)
  let closedFault := fun (k : Nat) (n : Station) => (⟨.storage, .assembler, .slot k n true⟩ : FaultReport)
  let damaged := fun (sets : List OpenSet) (k : Nat) (n : Station) =>
    sets.map fun o => if o.index = k then { o with slots := o.slots.set n ⟨.damaged, false⟩ } else o
  (∀ (s : State) (r : OwnRecord) (n : Station) (o : OpenSet), s.own = some n → s.findOpen r.index = some o →
    (o.slots.get n).parityBad = true →
    s.fillOwn r = State.takeFault { s with asm := { s.asm with openSets := damaged s.asm.openSets r.index n } }
      (openFault r.index n))
  ∧ (∀ (s : State) (p : Sys2Proof.Path) (bytes : List Byte) (f : Frame) (o : OpenSet) (valid : Bool)
    (clamp : PerPhase Bool) (cur : PerPhase Int) (bay : BayInfo),
    s.clock.stepDue = none → s.inRun = true → s.pathGood p = true →
    frameGood bytes false = true → s.schemeFrame bytes = true → parseFrame bytes = some f →
    s.inMask f.sender = true → s.isOwn f.sender = false → f.sig = s.ownSig →
    f.body = .sample valid clamp cur bay → s.placement f.index = .inSet → s.findOpen f.index = some o →
    (o.slots.get f.sender).parityBad = true →
    ∃ u : State, u.asm = { s.asm with openSets := damaged s.asm.openSets f.index f.sender }
      ∧ (u.entry f.sender).dup = (s.entry f.sender).dup ∧ (∀ n, n ≠ f.sender → u.entry n = s.entry n)
      ∧ (s.sup.fault = none → s.health.faultCellBad = false →
          u.sup.fault = some ⟨openFault f.index f.sender, s.clock.index, s.ctl.mode, 0, false⟩ ∧ u.diff.fault = true
          ∧ u.ctl = s.ctl ∧ u.clock = s.clock)
      ∧ (∀ r, s.sup.fault = some r → r.report = openFault f.index f.sender →
          u.sup.fault = some { r with repeats := satInc 65535 r.repeats } ∧ u.diff = s.diff ∧ u.ctl = s.ctl)
      ∧ (∀ r, s.sup.fault = some r → r.report ≠ openFault f.index f.sender → r.acknowledged = false →
          u.ctl.mode = .halted ∧ u.sup.fault = some r
          ∧ u.sup.halt.map HaltRecord.second = some (some (openFault f.index f.sender)))
      ∧ ((∀ h ∈ s.asm.openSets.head?, h.index ≠ f.index) →
          exec (.arrival p bytes false) s = .next (u.clockTake f).driven)
      ∧ ((∀ h ∈ s.asm.openSets.head?, h.index = f.index) →
          exec (.arrival p bytes false) s = .next ((u.closeComplete).clockTake f).driven))
  ∧ (∀ (c : ClosedSet) (n : Station),
    ((c.slots.get n).parityBad = true → (c.read n).status = some .missing ∧ (c.read n).contr = none
      ∧ c.readReport n = [closedFault c.index n])
    ∧ ((c.slots.get n).parityBad = false → c.read n = c.slots.get n ∧ c.readReport n = []))
  ∧ (∀ (s : State) (o : OpenSet),
    let u := s.takeFaults (s.openReports o ++ s.sourceReports o)
    s.settle o = { u with
      asm := u.assemblerAfter o, link := u.linkAfter o, roster := u.rosterSubst (u.closedSet o) }
    ∧ (∀ fs, s.takeFaults fs = fs.foldl (fun v f => v.takeFault f) s)
    ∧ s.openReports o = (stations.filter fun n => s.inPop n && (o.slots.get n).parityBad).map (openFault o.index)
    ∧ (o.index < 48000 → ∀ f, f ∈ s.sourceReports o ↔ ∃ n c, s.inPop n = true
        ∧ s.eligible n (if (o.slots.get n).parityBad then .damaged else (o.slots.get n).body) = true
        ∧ s.asm.gap.get n ≤ 1 ∧ (s.asm.marks.get n).count true < 4
        ∧ s.asm.history.find? (fun h =>
            h.index == (o.index + 48000 - if s.set8 2 = 60 then 40 else 48) % 48000) = some c
        ∧ (c.slots.get n).parityBad = true ∧ f = closedFault c.index n))
  ∧ (∀ (s : State) (c : ClosedSet),
    let u := s.takeFaults (s.replicaReports c.index)
    let r := u.replicaNext c.index
    s.zoneWork c = State.differential { u with replica := r.1 } r.2 c
    ∧ (c.index < 48000 → ∀ f, f ∈ s.replicaReports c.index ↔ ∃ n h, s.inPop n = true
        ∧ (s.asm.history.find? (fun x => x.index == (c.index + 47999) % 48000) = some h
          ∨ s.asm.history.find? (fun x => x.index == c.index) = some h)
        ∧ (h.slots.get n).parityBad = true ∧ f = closedFault h.index n))
  ∧ (∀ (s : State) (h : Handed) (k : Nat),
    (s.tripUnit h k).sup = (s.takeFaults (s.tripReports k)).sup
    ∧ (s.tripUnit h k).diff = (s.takeFaults (s.tripReports k)).diff
    ∧ ∀ f, f ∈ s.tripReports k ↔
      (∃ n, s.own = some n ∧ ∃ c ∈ s.asm.history.take s.windowW, (c.slots.get n).parityBad = true
        ∧ f = closedFault c.index n)
      ∨ ∃ n c, s.inPop n = true ∧ s.isOwn n = false ∧ s.asm.history.find? (fun x => x.index == k) = some c
        ∧ (c.slots.get n).parityBad = true ∧ f = closedFault c.index n)
  ∧ (∀ (s : State) (name : SlotName) (t : Slot) (ms : List Member) (changed : Bool) (c : ClosedSet),
    let leaves := s.windowW ≤ t.ring.length ∧ ∃ e ∈ t.ring.head?, e.parityBad = true
    (t.leavingBad s.windowW = true ↔ leaves)
    ∧ ∀ f, f ∈ s.windowReports name t ms changed c ↔
      (changed = false ∧ ∃ m ∈ ms, (c.slots.get m.station).parityBad = true ∧ f = closedFault c.index m.station)
      ∨ (changed = false ∧ leaves ∧ f = ⟨.storage, .differential, .ring name c.index⟩)
      ∨ ((changed = true ∨ leaves) ∧ ∃ h ∈ s.asm.history.take s.windowW, ∃ m ∈ ms,
          (h.slots.get m.station).parityBad = true ∧ f = closedFault h.index m.station))
  ∧ (∀ (s : State) (ch : Changes) (old : Tab 4 Latch) (c : ClosedSet) (g : Zone),
    let u := s.takeFaults (s.groupReports ch c g)
    let ringFault : FaultReport := ⟨.storage, .differential, .ring (.group g) c.index⟩
    s.diffGroup ch old c g = { u with diff := { u.diff with
      groups := u.diff.groups.set g (u.groupWindow ch c g), latches := u.diff.latches.set g (u.groupLatch ch old g) } }
    ∧ s.groupReports ch c g = (if s.replica.membership.groupOf.get g = g
        then s.windowReports (.group g) (s.diff.groups.get g) (s.replica.membership.members.get g) (ch.changed.get g) c
        else [])
    ∧ (s.working = true → s.replica.membership.groupOf.get g = g → ch.changed.get g = false →
        ch.dissolved.get g = false → (s.diff.groups.get g).leavingBad s.windowW = true →
        (∀ f ∈ s.groupReports ch c g, f = ringFault) → s.sup.fault = none → s.health.faultCellBad = false →
        (s.diffGroup ch old c g).sup.fault = some ⟨ringFault, s.clock.index, s.ctl.mode, 0, false⟩
        ∧ (s.diffGroup ch old c g).diff.fault = true
        ∧ ((s.diffGroup ch old c g).diff.groups.get g).ring = ((s.asm.history.take s.windowW).reverse).map fun h =>
            h.term (s.replica.membership.members.get g)))
  ∧ ∀ (s : State) (f : FaultReport), s.working = true →
    (s.sup.fault = none ∨ (∃ r, s.sup.fault = some r ∧ r.acknowledged = true ∧ r.report ≠ f) →
      s.health.faultCellBad = false →
      (s.takeFault f).sup.fault = some ⟨f, s.clock.index, s.ctl.mode, 0, false⟩
      ∧ (s.takeFault f).diff.fault = true ∧ (s.takeFault f).ctl = s.ctl
      ∧ ∀ g, (s.takeFault f).diff.blocked ((s.takeFault f).diff.groups.get g) = true)
    ∧ (s.sup.fault = none ∨ (∃ r, s.sup.fault = some r ∧ r.acknowledged = true ∧ r.report ≠ f) →
      s.health.faultCellBad = true →
      (s.takeFault f).ctl.mode = .halted
      ∧ (s.takeFault f).sup.fault = some ⟨f, s.clock.index, s.ctl.mode, 0, false⟩
      ∧ (s.takeFault f).sup.halt = some ⟨.doubleFault, if s.clock.taken then some s.clock.index else none,
          s.ctl.mode, some ⟨.storage, .supervision, .faultRecord⟩⟩
      ∧ (s.takeFault f).trip.output = false ∧ (s.takeFault f).diff = s.diff)
    ∧ (∀ r, s.sup.fault = some r → r.report = f →
      s.takeFault f = { s with sup := { s.sup with fault := some { r with repeats := satInc 65535 r.repeats } } })
    ∧ (∀ r, s.sup.fault = some r → r.report ≠ f → r.acknowledged = false →
      (s.takeFault f).ctl.mode = .halted ∧ (s.takeFault f).sup.fault = some r
      ∧ (s.takeFault f).sup.halt.map HaltRecord.code = some .doubleFault
      ∧ (s.takeFault f).sup.halt.map HaltRecord.second = some (some f)
      ∧ (s.takeFault f).trip.output = false ∧ (s.takeFault f).diff = s.diff)

/-! ## The service line -/

/-- CHARACTER_RECEIVED while a line is being received: LF is ignored, a byte with a framing error sets the
framing flag, another byte is appended while the buffer holds fewer than 64 characters, and sets the long
flag when it holds 64; LINE_DROPPED clears a line that holds no word. In REPLYING the CR of any other row makes its
line the held line, and from then on characters and further lines are discarded. Nothing else changes. (The
model's choice: a line is spelled by the bytes of its row, log 19.) -/
def Obligations.Characters : Prop :=
  (∀ s : State, s.collects = true →
    (∀ (b : Byte) (e : Bool), b ≠ 0x0D#8 → ∃ t, exec (.characterReceived b e) s = .next t ∧ s.OnlyService t
      ∧ t.svc = { s.svc with line := t.svc.line }
      ∧ (e = true → t.svc.line = { s.svc.line with framing := true })
      ∧ (e = false → b = 0x0A#8 → t.svc.line = s.svc.line)
      ∧ (e = false → b ≠ 0x0A#8 → s.svc.line.buf.length < 64 →
          t.svc.line = { s.svc.line with buf := s.svc.line.buf ++ [b] })
      ∧ (e = false → b ≠ 0x0A#8 → 64 ≤ s.svc.line.buf.length →
          t.svc.line = { s.svc.line with long := true }))
    ∧ ∀ cs : List Byte, wordsOf (s.lineEnded cs false).buf = [] →
      ∃ t, exec (.lineDropped cs) s = .next t ∧ s.OnlyService t
        ∧ t.svc = { s.svc with line := ⟨[], false, false⟩ })
  ∧ ∀ s : State, s.resetHeld = false → s.svc.iface = .replying →
    (∀ (r : LineRow) (cs : List Byte) (e : Bool), s.svc.held = none → lineRow (s.lineEnded cs e) = r →
      r ≠ .dropped → ∃ t, exec (r.command cs e) s = .next t ∧ s.OnlyService t
        ∧ t.svc = { s.svc with line := ⟨[], false, false⟩, held := some (s.lineEnded cs e) })
    ∧ ∀ l, s.svc.held = some l →
      (∀ (b : Byte) (e : Bool), ∃ t, exec (.characterReceived b e) s = .next t ∧ s.OnlyService t ∧ t.svc = s.svc)
      ∧ ∀ (r : LineRow) (cs : List Byte) (e : Bool),
        ∃ t, exec (r.command cs e) s = .next t ∧ s.OnlyService t ∧ t.svc = s.svc

/-- ILL_CMD in COLLECTING: a line with the long flag is answered ?06 LONG, else one with the framing flag
?01 ILL CMD, else any line of that row ?09 BUSY in SELFTEST and ?01 ILL CMD in every other mode; the line
is cleared and nothing but the Service Line Interface changes. (The model's choice: a line is spelled by
the bytes of its row, log 19.) -/
def Obligations.IllCmd : Prop :=
  ∀ (s : State) (cs : List Byte) (e : Bool), s.resetHeld = false → s.svc.iface = .collecting → s.svc.reply = [] →
    lineRow (s.lineEnded cs e) = .illCmd →
    ∃ t, exec (.illCmd cs e) s = .next t ∧ s.OnlyService t ∧ t.svc.iface = .replying
      ∧ t.svc.line = ⟨[], false, false⟩ ∧ t.svc.cursor = s.svc.cursor
      ∧ ((s.lineEnded cs e).long = true → t.svc.reply = [.error .long])
      ∧ ((s.lineEnded cs e).long = false → (s.lineEnded cs e).framing = true → t.svc.reply = [.error .illCmd])
      ∧ ((s.lineEnded cs e).long = false → (s.lineEnded cs e).framing = false →
          (s.ctl.mode = .selftest → t.svc.reply = [.error .busy])
          ∧ (s.ctl.mode ≠ .selftest → t.svc.reply = [.error .illCmd]))

/-- LOAD takes the interface to LOAD-SUM in every mode; a checksum byte within 2 s is judged by the first
applicable row of R197, and the data phase empties the store and sends the prompt line; a byte after that finds
the LOAD ended with ?05 TMOUT and is the first of a new line; without a byte for 2 s the LOAD ends with ?05 TMOUT
and the store as it was. (The model's choice: the ticks the timeout carries, log 3; what is due before it, log 5;
where the interface stands after it, and a late byte, log 23.) -/
def Obligations.LoadLine : Prop :=
  ∀ s : State, s.resetHeld = false →
    let answered := fun (t : State) (e : ErrLine) =>
      s.OnlyService t ∧ t.svc.iface = .replying ∧ t.svc.reply = s.svc.reply ++ [.error e]
    (∀ cs, s.svc.iface = .collecting → lineRow (s.lineEnded cs false) = .load →
      ∃ t, exec (.load cs) s = .next t ∧ s.OnlyService t ∧ t.svc.iface = .loadSum ∧ t.svc.timer = 0
        ∧ t.svc.loadLine = (s.lineEnded cs false).buf ++ [0x0D#8] ∧ t.svc.line = ⟨[], false, false⟩
        ∧ t.svc.reply = s.svc.reply)
    ∧ (s.svc.iface = .loadSum →
      (∀ (b : Byte) (e : Bool), s.svc.timer ≤ 48000000 →
        (s.ctl.mode = .selftest → ∃ t, exec (.loadChecksumByte b e) s = .next t ∧ answered t .busy)
        ∧ (s.ctl.mode ≠ .selftest → e = true →
          ∃ t, exec (.loadChecksumByte b e) s = .next t ∧ answered t .chksm)
        ∧ (s.ctl.mode ≠ .selftest → s.ctl.mode ≠ .config → e = false →
          ∃ t, exec (.loadChecksumByte b e) s = .next t ∧ answered t .mode)
        ∧ (s.ctl.mode = .config → e = false → sum256 (s.svc.loadLine ++ [b]) ≠ 0 →
          ∃ t, exec (.loadChecksumByte b e) s = .next t ∧ answered t .chksm)
        ∧ (s.ctl.mode = .config → e = false → sum256 (s.svc.loadLine ++ [b]) = 0 →
          loadCount s.svc.loadLine ≠ some 58 →
          ∃ t, exec (.loadChecksumByte b e) s = .next t ∧ answered t .count)
        ∧ (s.ctl.mode = .config → e = false → sum256 (s.svc.loadLine ++ [b]) = 0 →
          loadCount s.svc.loadLine = some 58 → ∃ t, exec (.loadChecksumByte b e) s = .next t
            ∧ t.svc.iface = .loadData ∧ t.svc.count = 0 ∧ t.svc.sum = 0 ∧ t.svc.tframing = false
            ∧ t.svc.data = [] ∧ t.svc.promptBusy = true ∧ t.svc.reply = s.svc.reply ++ [.prompt]
            ∧ t.ctl = { s.ctl with store := .empty, block := none, signature := none }
            ∧ t.clock = s.clock ∧ t.link = s.link ∧ t.bay = s.bay ∧ s.ProtectionKept t))
      ∧ (∀ (b : Byte) (e : Bool), 48000000 < s.svc.timer → b ≠ 0x0D#8 →
        ∃ t, exec (.loadChecksumByte b e) s = .next t ∧ s.OnlyService t ∧ t.svc.iface = .collecting
          ∧ t.svc.reply = s.svc.reply ++ [.error .tmout] ∧ t.svc.line = s.svc.line.take b e)
      ∧ (s.svc.timer ≤ 48000000 → s.Undisturbed (48000000 - s.svc.timer) →
        ∃ t, exec .loadSumTimeout s = .next t ∧ t.svc.iface = .collecting
          ∧ t.svc.reply = s.svc.reply ++ [.error .tmout] ∧ t.ctl.store = s.ctl.store ∧ t.ctl.block = s.ctl.block
          ∧ t.ctl.mode = s.ctl.mode ∧ t.clock.tick = s.clock.tick + BitVec.ofNat 32 (48000000 - s.svc.timer)
          ∧ s.ProtectionKept t))

/-- The data phase of LOAD: the end of the prompt sets the timer to 0; each byte in time is stored, counted and
summed and the 58th leads to LOAD-END; the checksum in time ends the transfer with the store LOADED and OK, or
?04 CHKSM with the store as the phase left it; with a byte overdue the transfer ends with ?05 TMOUT and the store
as the phase left it, and the late byte is the first of a new line. (The model's choice: the ticks the
timeout carries, log 3; where the interface stands after it, and a late byte, log 23; a first byte before the
prompt's end, log 33; a byte with a framing error, log 34.) -/
def Obligations.LoadData : Prop :=
  ∀ s : State, s.resetHeld = false → s.ctl.mode = .config →
    let allowed := if s.svc.iface = .loadData ∧ s.svc.count ≠ 0 then 2400000 else 48000000
    let runs := s.svc.iface = .loadEnd ∨ (s.svc.iface = .loadData ∧ (s.svc.promptBusy = false ∨ s.svc.count ≠ 0))
    let late := runs ∧ allowed < s.svc.timer
    let ended := fun t : State => t.svc.iface = .collecting ∧ t.svc.reply = s.svc.reply ++ [.error .tmout]
      ∧ t.ctl = s.ctl ∧ t.link = s.link ∧ t.bay = s.bay ∧ s.ProtectionKept t
    (s.svc.iface = .loadData → s.svc.promptBusy = true → ¬late → ∃ t, exec .promptLfSent s = .next t
      ∧ s.OnlyService t ∧ t.svc = { s.svc with promptBusy := false, timer := 0, reply := [] })
    ∧ (∀ (b : Byte) (e : Bool), s.svc.iface = .loadData → ¬late → ∃ t, exec (.loadDataByte b e) s = .next t
      ∧ s.OnlyService t ∧ t.svc.data = s.svc.data ++ [b] ∧ t.svc.count = s.svc.count + 1
      ∧ t.svc.sum = (s.svc.sum + b.toNat) % 256 ∧ t.svc.tframing = (s.svc.tframing || e) ∧ t.svc.timer = 0
      ∧ (t.svc.iface = .loadEnd ↔ 57 ≤ s.svc.count) ∧ (t.svc.iface = .loadData ↔ s.svc.count < 57))
    ∧ (∀ (b : Byte) (e : Bool), s.svc.iface = .loadEnd → ¬late →
        ((s.svc.tframing || e) = true ∨ (s.svc.sum + b.toNat) % 256 ≠ 0 →
          ∃ t, exec (.loadDataChecksum b e) s = .next t ∧ s.OnlyService t ∧ t.svc.iface = .replying
            ∧ t.svc.reply = s.svc.reply ++ [.error .chksm])
        ∧ ((s.svc.tframing || e) = false → (s.svc.sum + b.toNat) % 256 = 0 →
          ∃ t, exec (.loadDataChecksum b e) s = .next t ∧ t.svc.iface = .replying
            ∧ t.svc.reply = s.svc.reply ++ [.ok]
            ∧ t.ctl = { s.ctl with store := .loaded, block := some s.svc.data } ∧ t.clock = s.clock
            ∧ t.link = s.link ∧ t.bay = s.bay ∧ s.ProtectionKept t))
    ∧ (∀ (b : Byte) (e : Bool), late → b ≠ 0x0D#8 →
        (s.svc.iface = .loadData → ∃ t, exec (.loadDataByte b e) s = .next t ∧ ended t ∧ t.clock = s.clock
          ∧ t.svc.line = s.svc.line.take b e)
        ∧ (s.svc.iface = .loadEnd → ∃ t, exec (.loadDataChecksum b e) s = .next t ∧ ended t ∧ t.clock = s.clock
          ∧ t.svc.line = s.svc.line.take b e))
    ∧ (runs → s.Undisturbed (allowed - s.svc.timer) →
        ∃ t, exec .loadDataTimeout s = .next t ∧ ended t
          ∧ t.clock.tick = s.clock.tick + BitVec.ofNat 32 (allowed - s.svc.timer))

/-- The fields of the block are checked in ascending offset against the accepted values of 10.4, the CRC last.
COMMIT and TEST in CONFIG: a block that fails is answered ?10 FIELD with its first bad offset, 0 for an
EMPTY store, and changes no block; a good one enters RUN with the store COMMITTED, or TEST, with the entry
values, and is answered OK. (The model's choice: a line is spelled by the bytes of its row, log 19; the
entry values that the tables do not give, log 7.) -/
def Obligations.CommitAndTest : Prop :=
  (∀ (b : List Byte) (own : Option Station),
    let u8 := byteAt b
    let u16 := fun i => byteAt b i + 256 * byteAt b (i + 1)
    let i16 := fun i => if u16 i < 32768 then (u16 i : Int) else (u16 i : Int) - 65536
    let fields : List (Nat × Prop) :=
      [(0, u8 0 = 1), (2, u8 2 = 50 ∨ u8 2 = 60), (3, u8 3 ≤ 1),
       (4, ∃ n, own = some n ∧ (u8 4 + 256 * u8 5 + 65536 * u8 6).testBit n.val = true),
       (7, 1 ≤ u8 7 ∧ u8 7 ≤ 8), (8, 103 ≤ u16 8 ∧ u16 8 ≤ 4096), (10, 8 ≤ u8 10 ∧ u8 10 ≤ 60),
       (11, u8 10 ≤ u8 11 ∧ u8 11 ≤ 63), (12, 8 ≤ u8 12 ∧ u8 12 ≤ 60), (13, 1 ≤ u8 13 ∧ u8 13 ≤ 6),
       (14, 512 ≤ u16 14 ∧ u16 14 ≤ 16384), (16, 48 ≤ u16 16 ∧ u16 16 ≤ 2400), (18, u8 18 = 1 ∨ u8 18 = 2),
       (19, u8 19 ≤ 4),
       (20, u8 19 ≤ 4 ∧ u8 20 ≤ 4 ∧ ((u8 18 = 1 ∧ ¬(u8 19 = 0 ∧ u8 20 = 0))
         ∨ (u8 18 = 2 ∧ u8 19 ≠ 0 ∧ u8 20 ≠ 0 ∧ u8 19 ≠ u8 20))),
       (21, u8 21 ≤ 48), (22, 1 ≤ u16 22), (24, 1 ≤ u16 24), (26, 1 ≤ u16 26), (30, i16 28 < i16 30),
       (32, 240 ≤ u16 32 ∧ u16 32 ≤ 48000), (34, 24 ≤ u16 34 ∧ u16 34 ≤ 2400),
       (36, 48 ≤ u16 36 ∧ u16 36 ≤ 720), (38, 51 ≤ u16 38 ∧ u16 38 ≤ 2048),
       (40, 120 ≤ u16 40 ∧ u16 40 ≤ 1200), (42, u8 42 ≤ 1), (43, 1 ≤ u8 43 ∧ u8 43 ≤ 60),
       (44, u16 44 ≤ 48000 ∧ u16 44 < u8 13 * 10000), (46, 1536 ≤ u16 46), (48, u8 48 % 2 = 1),
       (54, 1 ≤ u8 54 ∧ u8 54 ≤ 16), (55, 4 ≤ u8 55 ∧ u8 55 ≤ 32),
       (56, (crc16 (b.take 56)).toNat = u16 56)]
    (firstBad b own = none ↔ ∀ f ∈ fields, f.2)
    ∧ ∀ off, firstBad b own = some off ↔ (∃ f ∈ fields, f.1 = off ∧ ¬f.2) ∧ ∀ f ∈ fields, f.1 < off → f.2)
  ∧ ∀ (s : State) (cs : List Byte), s.resetHeld = false → s.svc.iface = .collecting → s.svc.reply = [] →
    s.ctl.mode = .config →
    (lineRow (s.lineEnded cs false) = .commit →
      (s.ctl.store = .empty → ∃ t, exec (.commit cs) s = .next t ∧ s.OnlyService t
        ∧ t.svc.reply = [.error (.field 0)])
      ∧ (∀ off, s.ctl.store ≠ .empty → firstBad s.blockBytes s.own = some off →
          ∃ t, exec (.commit cs) s = .next t ∧ s.OnlyService t ∧ t.svc.reply = [.error (.field off)])
      ∧ (s.ctl.store ≠ .empty → firstBad s.blockBytes s.own = none → ∃ t, exec (.commit cs) s = .next t
        ∧ t.ctl.mode = .run ∧ t.ctl.store = .committed ∧ t.ctl.block = s.ctl.block
        ∧ t.ctl.signature = some (crc16 ((s.blockBytes.drop 1).take 17)) ∧ t.clock.sync = .unlocked
        ∧ t.clock.trim = s.clock.trim ∧ t.link.queryPending = true ∧ t.diff.fault = s.diff.fault
        ∧ t.trip = { Trip.cold with record := s.trip.record } ∧ t.bay = Bay.initial
        ∧ t.asm = Assembler.initial ∧ t.sup.fault = s.sup.fault ∧ t.sup.halt = s.sup.halt
        ∧ t.out.statusCode = 0 ∧ t.svc.reply = [.ok] ∧ s.StartsAfresh t ∧ s.PathsEnterRun t))
    ∧ (lineRow (s.lineEnded cs false) = .test →
      (s.ctl.store = .empty → ∃ t, exec (.test cs) s = .next t ∧ s.OnlyService t
        ∧ t.svc.reply = [.error (.field 0)])
      ∧ (∀ off, s.ctl.store ≠ .empty → firstBad s.blockBytes s.own = some off →
          ∃ t, exec (.test cs) s = .next t ∧ s.OnlyService t ∧ t.svc.reply = [.error (.field off)])
      ∧ (s.ctl.store ≠ .empty → firstBad s.blockBytes s.own = none → ∃ t, exec (.test cs) s = .next t
        ∧ t.ctl.mode = .test ∧ t.ctl.store = s.ctl.store ∧ t.clock.sync = .lockedSelf
        ∧ t.clock.authority = .self ∧ t.link = s.link ∧ t.diff.fault = s.diff.fault
        ∧ t.trip = { Trip.cold with record := s.trip.record } ∧ t.bay = Bay.initial
        ∧ t.out.statusCode = 10 ∧ t.svc.reply = [.ok] ∧ s.StartsAfresh t
        ∧ t.ctl.signature = some (crc16 ((s.blockBytes.drop 1).take 17))))

/-- ENDTEST in TEST enters CONFIG with the test trip deasserted; STOP in RUN halts the station with code STOP, or is
answered ?09 BUSY while TRIP is reported asserted; ACK marks the fault record acknowledged; WARM is answered OK with
the warm reset waiting. A command that the present mode does not take is answered ?02 MODE, and every command but
LOAD ?09 BUSY in SELFTEST, and nothing else changes. Each in COLLECTING. STOP cuts off a frame in transmission with
a transmit error. (The model's choice: a line is spelled by the bytes of its row, log 19; when CONV falls, log 36;
the index that STOP's halt record holds between an acquisition step and the next instant, log 38; how long a
transmit error stands, log 44.) -/
def Obligations.ModeCommands : Prop :=
  ∀ (s : State) (cs : List Byte), s.resetHeld = false → s.svc.iface = .collecting → s.svc.reply = [] →
    (lineRow (s.lineEnded cs false) = .endtest → s.ctl.mode = .test → ∃ t, exec (.endtest cs) s = .next t
      ∧ t.ctl.mode = .config ∧ t.out.statusCode = 9 ∧ t.trip = { s.trip with output := false, testTrip := false }
      ∧ t.bay = { s.bay with conv := .idle, convLine := false } ∧ t.asm = s.asm ∧ t.diff = s.diff ∧ t.replica = s.replica
      ∧ t.svc.reply = [.ok])
    ∧ (lineRow (s.lineEnded cs false) = .stop → s.ctl.mode = .run →
      (s.ctl.tripReported = false → ∃ t, exec (.stop cs) s = .next t ∧ t.ctl.mode = .halted
        ∧ t.out.statusCode = 12 ∧ t.out.tripLine = false ∧ t.out.protReady = false ∧ t.out.alarm = true
        ∧ t.sup.halt = some ⟨.stop, if s.clock.taken then some s.clock.index else none, .run, none⟩
        ∧ t.asm = s.asm ∧ t.roster = s.roster ∧ t.replica = s.replica ∧ t.diff = s.diff
        ∧ (∀ p, (t.link.paths.get p).sending = none ∧ (t.link.paths.get p).health = (s.link.paths.get p).health
            ∧ ((s.link.paths.get p).sending ≠ none → t.out.txError.get p = true))
        ∧ t.svc.reply = [.ok])
      ∧ (s.ctl.tripReported = true → ∃ t, exec (.stop cs) s = .next t ∧ s.OnlyService t
        ∧ t.svc.reply = [.error .busy]))
    ∧ (lineRow (s.lineEnded cs false) = .ack → s.ctl.mode ≠ .selftest → s.ctl.mode ≠ .halted →
      ∃ t, exec (.ack cs) s = .next t
        ∧ t.sup = { s.sup with fault := s.sup.fault.map fun r => { r with acknowledged := true } }
        ∧ t.diff = s.diff ∧ t.trip = s.trip ∧ t.ctl = s.ctl ∧ t.clock = s.clock ∧ t.bay = s.bay
        ∧ t.link = s.link ∧ t.roster = s.roster ∧ t.asm = s.asm ∧ t.replica = s.replica
        ∧ t.svc.reply = [.ok])
    ∧ (lineRow (s.lineEnded cs false) = .warm → s.ctl.mode ≠ .selftest → ∃ t, exec (.warm cs) s = .next t
      ∧ s.OnlyService t ∧ t.svc.reply = [.ok] ∧ t.svc.warmWaits = true)
    ∧ ∀ r : LineRow, lineRow (s.lineEnded cs false) = r →
      (s.ctl.mode ≠ .selftest → ((r = .commit ∨ r = .test) ∧ s.ctl.mode ≠ .config)
          ∨ (r = .endtest ∧ s.ctl.mode ≠ .test) ∨ (r = .stop ∧ s.ctl.mode ≠ .run)
          ∨ (r = .ack ∧ s.ctl.mode = .halted) →
        ∃ t, exec (r.command cs false) s = .next t ∧ s.OnlyService t ∧ t.svc.iface = .replying
          ∧ t.svc.reply = [.error .mode])
      ∧ (s.ctl.mode = .selftest → r ≠ .dropped → r ≠ .illCmd → r ≠ .load →
        ∃ t, exec (r.command cs false) s = .next t ∧ s.OnlyService t ∧ t.svc.iface = .replying
          ∧ t.svc.reply = [.error .busy])

/-- EXAMINE, EXAMINE_NEXT and EXAMINE_AGAIN outside SELFTEST: a line that names a record by the forms of R201
is answered with the record copied at that moment, and the cursor becomes it; any other is answered with its
error and leaves the cursor. Reading changes no other state. What the words after the name ask for follows R201: a
record at its first index, or at an index within its range, + for the next index of the cursor's record, which no
words are too, * for the same one; more than two words are ?01 ILL CMD, an unknown record, or a cursor form with no
cursor, is ?07 ILL REC, a cursor form with a further word is ?01 ILL CMD, and an index that the record does not have
is ?08 ILL IDX. (The model's choice: the spelling of the
records, log 18; a line is spelled by the bytes of its row, log 19.) -/
def Obligations.Examine : Prop :=
  (∀ (cursor : Option Rec) (words : List (List Byte)),
    let plus : List Byte := [0x2B#8]
    let star : List Byte := [0x2A#8]
    let records : List (List Byte × Rec) :=
      [([0x4D#8, 0x4F#8, 0x44#8, 0x45#8], .mode), ([0x53#8, 0x59#8, 0x4E#8, 0x43#8], .sync),
       ([0x50#8, 0x41#8, 0x54#8, 0x48#8], .path .a), ([0x52#8, 0x4F#8, 0x53#8, 0x54#8, 0x45#8, 0x52#8], .roster 0),
       ([0x47#8, 0x52#8, 0x4F#8, 0x55#8, 0x50#8], .group 0), ([0x43#8, 0x48#8, 0x45#8, 0x43#8, 0x4B#8], .check),
       ([0x54#8, 0x52#8, 0x49#8, 0x50#8], .trip), ([0x46#8, 0x41#8, 0x55#8, 0x4C#8, 0x54#8], .fault),
       ([0x48#8, 0x41#8, 0x4C#8, 0x54#8], .halt), ([0x43#8, 0x4F#8, 0x4E#8, 0x46#8, 0x49#8, 0x47#8], .config),
       ([0x43#8, 0x4F#8, 0x55#8, 0x4E#8, 0x54#8, 0x53#8], .counts)]
    (2 < words.length → ask cursor words = .error .illCmd)
    ∧ ask cursor [] = ask cursor [plus]
    ∧ (∀ w rest, words = w :: rest → words.length ≤ 2 → w ≠ plus → w ≠ star → (∀ e ∈ records, e.1 ≠ w) →
        ask cursor words = .error .illRec)
    ∧ (∀ e ∈ records, ask cursor [e.1] = .record e.2)
    ∧ (∀ e ∈ records, ∀ i : List Byte,
        let got := ask cursor [e.1, i]
        (∀ p, e.2 = .path p → got = if i = [0x41#8] then .record (.path .a) else if i = [0x42#8] then .record (.path .b)
            else .error .illIdx)
        ∧ (∀ m, e.2 = .roster m → (∀ n : Station, decimalOf i = some (n.val + 1) → got = .record (.roster n))
            ∧ ((∀ n : Station, decimalOf i ≠ some (n.val + 1)) → got = .error .illIdx))
        ∧ (∀ m, e.2 = .group m → (∀ g : Zone, decimalOf i = some (g.val + 1) → got = .record (.group g))
            ∧ ((∀ g : Zone, decimalOf i ≠ some (g.val + 1)) → got = .error .illIdx))
        ∧ ((∀ p, e.2 ≠ .path p) → (∀ m, e.2 ≠ .roster m) → (∀ m, e.2 ≠ .group m) → got = .error .illIdx))
    ∧ (cursor = none → ∀ w rest, words = w :: rest → words.length ≤ 2 → w = plus ∨ w = star →
        ask cursor words = .error .illRec)
    ∧ ∀ r, cursor = some r →
        (∀ w i : List Byte, w = plus ∨ w = star → ask cursor [w, i] = .error .illCmd)
        ∧ ask cursor [star] = .record r
        ∧ ask cursor [plus] = match r with
          | .path .a => .record (.path .b)
          | .roster n => if h : n.val + 1 < 24 then .record (.roster ⟨n.val + 1, h⟩) else .error .illIdx
          | .group g => if h : g.val + 1 < 4 then .record (.group ⟨g.val + 1, h⟩) else .error .illIdx
          | _ => .error .illIdx)
  ∧ (∀ i : List Byte, decimalOf i = if i ≠ [] ∧ ∀ b ∈ i, 0x30#8 ≤ b ∧ b ≤ 0x39#8
      then some (Nat.ofDigits 10 (i.reverse.map fun b => b.toNat - 48)) else none)
  ∧ ∀ (s : State) (cs : List Byte) (w : List Byte) (rest : List (List Byte)), s.resetHeld = false →
    s.svc.iface = .collecting → s.svc.reply = [] → s.ctl.mode ≠ .selftest →
    wordsOf (s.lineEnded cs false).buf = w :: rest →
    ∀ c : Instr,
      (c = .examine cs ∧ lineRow (s.lineEnded cs false) = .examine)
        ∨ (c = .examineNext cs ∧ lineRow (s.lineEnded cs false) = .examineNext)
        ∨ (c = .examineAgain cs ∧ lineRow (s.lineEnded cs false) = .examineAgain) →
      (∀ r, ask s.svc.cursor rest = .record r → ∃ t, exec c s = .next t ∧ s.OnlyService t
        ∧ t.svc.cursor = some r ∧ t.svc.reply = .name r :: (s.recordLines r ++ [.ok]))
      ∧ (∀ e, ask s.svc.cursor rest = .error e → ∃ t, exec c s = .next t ∧ s.OnlyService t
        ∧ t.svc.cursor = s.svc.cursor ∧ t.svc.reply = [.error e])
      ∧ (c = .examineAgain cs → rest.length = 1 → ∀ r, s.svc.cursor = some r → ask s.svc.cursor rest = .record r)
      ∧ (c = .examineNext cs → s.svc.cursor = none → rest.length ≤ 1 → ask s.svc.cursor rest = .error .illRec)

/-- REPLY_END in REPLYING: with nothing held the interface returns to COLLECTING; a held line is interpreted at
once, from COLLECTING with nothing left to send and no line held; after WARM the station takes its warm reset with
start kind warm and the held line is discarded. In another state of the interface the reply alone is at its end, and
under a reset nothing happens. The interpretation of a line that holds a word takes the first applicable row of
R195. (The model's choice: the clauses that under a reset nothing happens and that in another state of the interface
the row only empties the reply, log 1; when the row comes, log 22; a reply after a timeout of LOAD, log 23; the
timer of a held LOAD line, log 43.) -/
def Obligations.ReplyEnd : Prop :=
  (∀ s : State,
    (s.resetHeld = false → s.svc.iface = .replying →
      (s.svc.warmWaits = false → s.svc.held = none → ∃ t, exec .replyEnd s = .next t ∧ s.OnlyService t
        ∧ t.svc = { s.svc with iface := .collecting, reply := [] })
      ∧ (∀ l, s.svc.warmWaits = false → s.svc.held = some l → exec .replyEnd s
          = .next (State.interpret
              { s with svc := { s.svc with iface := .collecting, reply := [], held := none } } l).driven)
      ∧ (∀ l w rest, s.svc.warmWaits = false → s.svc.held = some l → wordsOf l.buf = w :: rest → l.long = true →
        ∃ t, exec .replyEnd s = .next t ∧ s.OnlyService t ∧ t.svc.held = none ∧ t.svc.reply = [.error .long])
      ∧ (s.svc.warmWaits = true → ∃ t, exec .replyEnd s = .next t ∧ t.ctl.mode = .selftest
        ∧ t.ctl.step = some 7 ∧ t.ctl.start = .warm ∧ t.ctl.store = s.ctl.store ∧ t.ctl.block = s.ctl.block
        ∧ t.svc = Service.initial ∧ t.out.tripLine = false ∧ t.clock.trim = s.clock.trim
        ∧ t.sup.fault = s.sup.fault ∧ t.trip.record = s.trip.record ∧ t.diff.fault = false))
    ∧ (s.resetHeld = false → s.svc.iface ≠ .replying → ∃ t, exec .replyEnd s = .next t ∧ s.OnlyService t
        ∧ t.svc = { s.svc with reply := [] })
    ∧ (s.resetHeld = true → ∃ t, exec .replyEnd s = .next t ∧ t = { s with out := t.out }))
  ∧ ∀ (s : State) (l : Line) (w : List Byte) (rest : List (List Byte)), wordsOf l.buf = w :: rest →
    let answers := fun e : ErrLine =>
      s.interpret l = { s with svc := { s.svc with iface := .replying, reply := s.svc.reply ++ [.error e] } }
    (l.long = true → answers .long)
    ∧ (l.long = false → l.framing = true → answers .illCmd)
    ∧ (l.long = false → l.framing = false →
      (commandOf w = some .load → s.interpret l = { s with
          svc := { s.svc with iface := .loadSum, loadLine := l.buf ++ [0x0D#8], timer := 0 } })
      ∧ (commandOf w ≠ some .load → s.ctl.mode = .selftest → answers .busy)
      ∧ (commandOf w = none → s.ctl.mode ≠ .selftest → answers .illCmd)
      ∧ ∀ c, commandOf w = some c → c ≠ .load → s.ctl.mode ≠ .selftest →
        let taken := match c with
          | .load => s.ctl.mode = .config
          | .commit => s.ctl.mode = .config
          | .test => s.ctl.mode = .config
          | .endtest => s.ctl.mode = .test
          | .stop => s.ctl.mode = .run
          | .ack => s.ctl.mode ≠ .halted
          | .warm => True
          | .examine => True
        (c ≠ .examine → rest ≠ [] → answers .illCmd)
        ∧ (c = .examine ∨ rest = [] → ¬taken → answers .mode)
        ∧ (c = .examine ∨ rest = [] → taken → s.interpret l = s.carryOut c rest))

/-! ## Invariants that every step keeps -/

/-- The reset state meets every invariant below. (The model's choice: State.reset is the part held in cold reset,
log 6; the line field of a disabled path B, log 41.) -/
def Obligations.ResetIsSafe : Prop :=
  State.reset.TripSafe ∧ State.reset.diff.BlockSafe ∧ State.reset.diff.WindowsSafe
    ∧ State.reset.link.paths.a.Consistent ∧ State.reset.link.paths.b.Consistent
    ∧ State.reset.clock.InRange

/-- TRIP stands asserted in RUN alone and the test trip in TEST alone, and the Mode Controller has the state
of TRIP as reported: every step keeps this. (The model's choice: what a step does on an empty queue, log
2.) -/
def Obligations.StepKeepsTripSafe : Prop := ∀ s t : State, s.TripSafe → step s = .next t → t.TripSafe

/-- A slot whose block reasons are not empty is not in OPERATE: every step keeps this. (The model's choice:
what a step does on an empty queue, log 2.) -/
def Obligations.StepKeepsBlockSafe : Prop :=
  ∀ s t : State, s.diff.BlockSafe → step s = .next t → t.diff.BlockSafe

/-- Every window's sums and counts are the totals of its terms, so D never exceeds S: every step keeps
this. (The model's choice: what a step does on an empty queue, log 2.) -/
def Obligations.StepKeepsWindowsSafe : Prop :=
  ∀ s t : State, s.diff.WindowsSafe → step s = .next t → t.diff.WindowsSafe

/-- Each path's state agrees with its link-up line field and health count: every step keeps this. (The model's
choice: what a step does on an empty queue, log 2; for a disabled path B, which R52 makes DOWN whatever its line is,
the agreement rests on its line field being held at low, log 41.) -/
def Obligations.StepKeepsPathsConsistent : Prop :=
  ∀ s t : State, s.link.paths.a.Consistent → s.link.paths.b.Consistent → step s = .next t →
    t.link.paths.a.Consistent ∧ t.link.paths.b.Consistent

/-- The latest index stays in 0..47,999 and the trim in ±512: every step keeps this. (The model's choice: what
a step does on an empty queue, log 2.) -/
def Obligations.StepKeepsClockInRange : Prop :=
  ∀ s t : State, s.clock.InRange → step s = .next t → t.clock.InRange
end

