-- ==== Sys2Proof/Laws/Tab.lean ====
section
/-! SUPPORT. Reading tables, paths, devices and phases after a change. -/

namespace Sys2Proof

/-- Reading the table of a function gives the function's value. -/
@[simp] theorem Tab.get_ofFn {n : Nat} {α : Type} (f : Fin n → α) (i : Fin n) : (Tab.ofFn f).get i = f i := by
  simp [Tab.get, Tab.ofFn]
  rfl

/-- Reading a constant table. -/
@[simp] theorem Tab.get_const {n : Nat} {α : Type} (a : α) (i : Fin n) : (Tab.const a : Tab n α).get i = a := by
  simp [Tab.const]

/-- Reading a table with one entry replaced. -/
@[simp] theorem Tab.get_set {n : Nat} {α : Type} (t : Tab n α) (i j : Fin n) (a : α) :
    (t.set i a).get j = if j = i then a else t.get j := by
  simp [Tab.set]

/-- Reading a table with one entry changed. -/
@[simp] theorem Tab.get_modify {n : Nat} {α : Type} (t : Tab n α) (i j : Fin n) (f : α → α) :
    (t.modify i f).get j = if j = i then f (t.get i) else t.get j := by
  simp [Tab.modify]

/-- Two tables with the same entries are equal. -/
theorem Tab.ext_get {n : Nat} {α : Type} {t u : Tab n α} (h : ∀ i, t.get i = u.get i) : t = u := by
  obtain ⟨l, hl⟩ := t
  obtain ⟨m, hm⟩ := u
  subst hl
  congr 1
  apply List.ext_getElem
  · exact hm.symm
  · intro i h1 h2
    simpa [Tab.get] using h ⟨i, h1⟩

/-- Setting an entry to itself changes nothing. -/
@[simp] theorem Tab.set_get_self {n : Nat} {α : Type} (t : Tab n α) (i : Fin n) : t.set i (t.get i) = t := by
  apply Tab.ext_get
  intro j
  by_cases h : j = i <;> simp [h]

/-- Reading one path after a change of one path. -/
@[simp] theorem PerPath.get_set {α : Type} (p : PerPath α) (q r : Path) (v : α) :
    (p.set q v).get r = if r = q then v else p.get r := by
  cases q <;> cases r <;> rfl

/-- Reading one path of a value that is the same on both. -/
@[simp] theorem PerPath.const_get {α : Type} (a : α) (p : Path) : (PerPath.const a).get p = a := by cases p <;> rfl

/-- Setting a path to what stands there changes nothing. -/
@[simp] theorem PerPath.set_get_self {α : Type} (p : PerPath α) (q : Path) : p.set q (p.get q) = p := by
  cases q <;> rfl

/-- The other path is another path. -/
@[simp] theorem Path.other_ne (p : Path) : p.other ≠ p := by cases p <;> decide

/-- Reading one device after a change of one device. -/
@[simp] theorem PerDevice.get_set {α : Type} (p : PerDevice α) (d e : Device) (v : α) :
    (p.set d v).get e = if e = d then v else p.get e := by
  cases d <;> cases e <;> rfl

/-- Reading a mapped device value. -/
@[simp] theorem PerDevice.get_map {α β : Type} (f : α → β) (p : PerDevice α) (d : Device) :
    (p.map f).get d = f (p.get d) := by
  cases d <;> rfl

/-- Two device values with the same entries are equal. -/
theorem PerDevice.ext_get {α : Type} {p q : PerDevice α} (h : ∀ d, p.get d = q.get d) : p = q := by
  obtain ⟨a, b, c⟩ := p
  obtain ⟨a', b', c'⟩ := q
  have hx := h .x
  have hy := h .y
  have hb := h .breaker
  simp only [PerDevice.get] at hx hy hb
  rw [hx, hy, hb]

/-- Reading a mapped phase value. -/
@[simp] theorem PerPhase.get_map {α β : Type} (f : α → β) (p : PerPhase α) (ph : Machine.Phase) :
    (p.map f).get ph = f (p.get ph) := by
  cases ph <;> rfl

/-- Reading a combination of two phase values. -/
@[simp] theorem PerPhase.get_zip {α β γ : Type} (f : α → β → γ) (p : PerPhase α) (q : PerPhase β)
    (ph : Machine.Phase) : (PerPhase.zip f p q).get ph = f (p.get ph) (q.get ph) := by
  cases ph <;> rfl

/-- Reading a constant phase value. -/
@[simp] theorem PerPhase.get_const {α : Type} (a : α) (ph : Machine.Phase) : (PerPhase.const a).get ph = a := by
  cases ph <;> rfl

/-- Two phase values with the same entries are equal. -/
theorem PerPhase.ext_get {α : Type} {p q : PerPhase α} (h : ∀ ph, p.get ph = q.get ph) : p = q := by
  obtain ⟨a, b, c⟩ := p
  obtain ⟨a', b', c'⟩ := q
  have h1 := h .l1
  have h2 := h .l2
  have h3 := h .l3
  simp only [PerPhase.get] at h1 h2 h3
  rw [h1, h2, h3]

end Sys2Proof
end

