-- ==== Sys2Proof/Laws/State.lean ====
section
/-! SUPPORT. The fields of the state after each of the record updates the operations are made of. -/

namespace Sys2Proof.Machine

variable (s : State)

/-! ### Fields after the outputs are driven -/

@[simp] theorem State.driven_pending : (s.driven).pending = s.pending := rfl
@[simp] theorem State.driven_pins : (s.driven).pins = s.pins := rfl
@[simp] theorem State.driven_health : (s.driven).health = s.health := rfl
@[simp] theorem State.driven_bay : (s.driven).bay = s.bay := rfl
@[simp] theorem State.driven_clock : (s.driven).clock = s.clock := rfl
@[simp] theorem State.driven_link : (s.driven).link = s.link := rfl
@[simp] theorem State.driven_roster : (s.driven).roster = s.roster := rfl
@[simp] theorem State.driven_asm : (s.driven).asm = s.asm := rfl
@[simp] theorem State.driven_replica : (s.driven).replica = s.replica := rfl
@[simp] theorem State.driven_diff : (s.driven).diff = s.diff := rfl
@[simp] theorem State.driven_trip : (s.driven).trip = s.trip := rfl
@[simp] theorem State.driven_sup : (s.driven).sup = s.sup := rfl
@[simp] theorem State.driven_ctl : (s.driven).ctl = s.ctl := rfl
@[simp] theorem State.driven_svc : (s.driven).svc = s.svc := rfl
@[simp] theorem State.driven_out : (s.driven).out = s.outputs := rfl

/-! ### Fields after a change of one roster entry -/

@[simp] theorem State.onEntry_pending (n : Station) (f : Entry → Entry) : (s.onEntry n f).pending = s.pending := rfl
@[simp] theorem State.onEntry_pins (n : Station) (f : Entry → Entry) : (s.onEntry n f).pins = s.pins := rfl
@[simp] theorem State.onEntry_health (n : Station) (f : Entry → Entry) : (s.onEntry n f).health = s.health := rfl
@[simp] theorem State.onEntry_bay (n : Station) (f : Entry → Entry) : (s.onEntry n f).bay = s.bay := rfl
@[simp] theorem State.onEntry_clock (n : Station) (f : Entry → Entry) : (s.onEntry n f).clock = s.clock := rfl
@[simp] theorem State.onEntry_link (n : Station) (f : Entry → Entry) : (s.onEntry n f).link = s.link := rfl
@[simp] theorem State.onEntry_roster (n : Station) (f : Entry → Entry) : (s.onEntry n f).roster = { s.roster with entries := s.roster.entries.modify n f } := rfl
@[simp] theorem State.onEntry_asm (n : Station) (f : Entry → Entry) : (s.onEntry n f).asm = s.asm := rfl
@[simp] theorem State.onEntry_replica (n : Station) (f : Entry → Entry) : (s.onEntry n f).replica = s.replica := rfl
@[simp] theorem State.onEntry_diff (n : Station) (f : Entry → Entry) : (s.onEntry n f).diff = s.diff := rfl
@[simp] theorem State.onEntry_trip (n : Station) (f : Entry → Entry) : (s.onEntry n f).trip = s.trip := rfl
@[simp] theorem State.onEntry_sup (n : Station) (f : Entry → Entry) : (s.onEntry n f).sup = s.sup := rfl
@[simp] theorem State.onEntry_ctl (n : Station) (f : Entry → Entry) : (s.onEntry n f).ctl = s.ctl := rfl
@[simp] theorem State.onEntry_svc (n : Station) (f : Entry → Entry) : (s.onEntry n f).svc = s.svc := rfl
@[simp] theorem State.onEntry_out (n : Station) (f : Entry → Entry) : (s.onEntry n f).out = s.out := rfl

/-! ### Fields after a set is opened -/

@[simp] theorem State.openSet_pending (k : Nat) : (s.openSet k).pending = s.pending := rfl
@[simp] theorem State.openSet_pins (k : Nat) : (s.openSet k).pins = s.pins := rfl
@[simp] theorem State.openSet_health (k : Nat) : (s.openSet k).health = s.health := rfl
@[simp] theorem State.openSet_bay (k : Nat) : (s.openSet k).bay = s.bay := rfl
@[simp] theorem State.openSet_clock (k : Nat) : (s.openSet k).clock = s.clock := rfl
@[simp] theorem State.openSet_link (k : Nat) : (s.openSet k).link = s.link := rfl
@[simp] theorem State.openSet_roster (k : Nat) : (s.openSet k).roster = s.roster := rfl
@[simp] theorem State.openSet_asm (k : Nat) : (s.openSet k).asm = { s.asm with openSets := s.asm.openSets ++ [⟨k, .const OpenSlot.fresh⟩] } := rfl
@[simp] theorem State.openSet_replica (k : Nat) : (s.openSet k).replica = s.replica := rfl
@[simp] theorem State.openSet_diff (k : Nat) : (s.openSet k).diff = s.diff := rfl
@[simp] theorem State.openSet_trip (k : Nat) : (s.openSet k).trip = s.trip := rfl
@[simp] theorem State.openSet_sup (k : Nat) : (s.openSet k).sup = s.sup := rfl
@[simp] theorem State.openSet_ctl (k : Nat) : (s.openSet k).ctl = s.ctl := rfl
@[simp] theorem State.openSet_svc (k : Nat) : (s.openSet k).svc = s.svc := rfl
@[simp] theorem State.openSet_out (k : Nat) : (s.openSet k).out = s.out := rfl

/-! ### Fields after a slot is written -/

@[simp] theorem State.writeSlot_pending (k : Nat) (n : Station) (b : SlotBody) : (s.writeSlot k n b).pending = s.pending := rfl
@[simp] theorem State.writeSlot_pins (k : Nat) (n : Station) (b : SlotBody) : (s.writeSlot k n b).pins = s.pins := rfl
@[simp] theorem State.writeSlot_health (k : Nat) (n : Station) (b : SlotBody) : (s.writeSlot k n b).health = s.health := rfl
@[simp] theorem State.writeSlot_bay (k : Nat) (n : Station) (b : SlotBody) : (s.writeSlot k n b).bay = s.bay := rfl
@[simp] theorem State.writeSlot_clock (k : Nat) (n : Station) (b : SlotBody) : (s.writeSlot k n b).clock = s.clock := rfl
@[simp] theorem State.writeSlot_link (k : Nat) (n : Station) (b : SlotBody) : (s.writeSlot k n b).link = s.link := rfl
@[simp] theorem State.writeSlot_roster (k : Nat) (n : Station) (b : SlotBody) : (s.writeSlot k n b).roster = s.roster := rfl
@[simp] theorem State.writeSlot_replica (k : Nat) (n : Station) (b : SlotBody) : (s.writeSlot k n b).replica = s.replica := rfl
@[simp] theorem State.writeSlot_diff (k : Nat) (n : Station) (b : SlotBody) : (s.writeSlot k n b).diff = s.diff := rfl
@[simp] theorem State.writeSlot_trip (k : Nat) (n : Station) (b : SlotBody) : (s.writeSlot k n b).trip = s.trip := rfl
@[simp] theorem State.writeSlot_sup (k : Nat) (n : Station) (b : SlotBody) : (s.writeSlot k n b).sup = s.sup := rfl
@[simp] theorem State.writeSlot_ctl (k : Nat) (n : Station) (b : SlotBody) : (s.writeSlot k n b).ctl = s.ctl := rfl
@[simp] theorem State.writeSlot_svc (k : Nat) (n : Station) (b : SlotBody) : (s.writeSlot k n b).svc = s.svc := rfl
@[simp] theorem State.writeSlot_out (k : Nat) (n : Station) (b : SlotBody) : (s.writeSlot k n b).out = s.out := rfl

/-! ### Fields after a link-up line changes -/

@[simp] theorem State.setLup_pending (p : Path) (v : Bool) : (s.setLup p v).pending = s.pending := rfl
@[simp] theorem State.setLup_pins (p : Path) (v : Bool) : (s.setLup p v).pins = { s.pins with lup := s.pins.lup.set p v } := rfl
@[simp] theorem State.setLup_health (p : Path) (v : Bool) : (s.setLup p v).health = s.health := rfl
@[simp] theorem State.setLup_bay (p : Path) (v : Bool) : (s.setLup p v).bay = s.bay := rfl
@[simp] theorem State.setLup_clock (p : Path) (v : Bool) : (s.setLup p v).clock = s.clock := rfl
@[simp] theorem State.setLup_link (p : Path) (v : Bool) : (s.setLup p v).link = s.link := rfl
@[simp] theorem State.setLup_roster (p : Path) (v : Bool) : (s.setLup p v).roster = s.roster := rfl
@[simp] theorem State.setLup_asm (p : Path) (v : Bool) : (s.setLup p v).asm = s.asm := rfl
@[simp] theorem State.setLup_replica (p : Path) (v : Bool) : (s.setLup p v).replica = s.replica := rfl
@[simp] theorem State.setLup_diff (p : Path) (v : Bool) : (s.setLup p v).diff = s.diff := rfl
@[simp] theorem State.setLup_trip (p : Path) (v : Bool) : (s.setLup p v).trip = s.trip := rfl
@[simp] theorem State.setLup_sup (p : Path) (v : Bool) : (s.setLup p v).sup = s.sup := rfl
@[simp] theorem State.setLup_ctl (p : Path) (v : Bool) : (s.setLup p v).ctl = s.ctl := rfl
@[simp] theorem State.setLup_svc (p : Path) (v : Bool) : (s.setLup p v).svc = s.svc := rfl
@[simp] theorem State.setLup_out (p : Path) (v : Bool) : (s.setLup p v).out = s.out := rfl

/-! ### Fields after a change of one path -/

@[simp] theorem State.onPath_pending (p : Path) (f : PathCtl → PathCtl) : (s.onPath p f).pending = s.pending := rfl
@[simp] theorem State.onPath_pins (p : Path) (f : PathCtl → PathCtl) : (s.onPath p f).pins = s.pins := rfl
@[simp] theorem State.onPath_health (p : Path) (f : PathCtl → PathCtl) : (s.onPath p f).health = s.health := rfl
@[simp] theorem State.onPath_bay (p : Path) (f : PathCtl → PathCtl) : (s.onPath p f).bay = s.bay := rfl
@[simp] theorem State.onPath_clock (p : Path) (f : PathCtl → PathCtl) : (s.onPath p f).clock = s.clock := rfl
@[simp] theorem State.onPath_link (p : Path) (f : PathCtl → PathCtl) : (s.onPath p f).link = s.link.onPath p f := rfl
@[simp] theorem State.onPath_roster (p : Path) (f : PathCtl → PathCtl) : (s.onPath p f).roster = s.roster := rfl
@[simp] theorem State.onPath_asm (p : Path) (f : PathCtl → PathCtl) : (s.onPath p f).asm = s.asm := rfl
@[simp] theorem State.onPath_replica (p : Path) (f : PathCtl → PathCtl) : (s.onPath p f).replica = s.replica := rfl
@[simp] theorem State.onPath_diff (p : Path) (f : PathCtl → PathCtl) : (s.onPath p f).diff = s.diff := rfl
@[simp] theorem State.onPath_trip (p : Path) (f : PathCtl → PathCtl) : (s.onPath p f).trip = s.trip := rfl
@[simp] theorem State.onPath_sup (p : Path) (f : PathCtl → PathCtl) : (s.onPath p f).sup = s.sup := rfl
@[simp] theorem State.onPath_ctl (p : Path) (f : PathCtl → PathCtl) : (s.onPath p f).ctl = s.ctl := rfl
@[simp] theorem State.onPath_svc (p : Path) (f : PathCtl → PathCtl) : (s.onPath p f).svc = s.svc := rfl
@[simp] theorem State.onPath_out (p : Path) (f : PathCtl → PathCtl) : (s.onPath p f).out = s.out := rfl

/-! ### Fields after the Trip Unit is replaced -/

@[simp] theorem State.withTrip_pending (t : Trip) : (s.withTrip t).pending = s.pending := rfl
@[simp] theorem State.withTrip_pins (t : Trip) : (s.withTrip t).pins = s.pins := rfl
@[simp] theorem State.withTrip_health (t : Trip) : (s.withTrip t).health = s.health := rfl
@[simp] theorem State.withTrip_bay (t : Trip) : (s.withTrip t).bay = s.bay := rfl
@[simp] theorem State.withTrip_clock (t : Trip) : (s.withTrip t).clock = s.clock := rfl
@[simp] theorem State.withTrip_link (t : Trip) : (s.withTrip t).link = s.link := rfl
@[simp] theorem State.withTrip_roster (t : Trip) : (s.withTrip t).roster = s.roster := rfl
@[simp] theorem State.withTrip_asm (t : Trip) : (s.withTrip t).asm = s.asm := rfl
@[simp] theorem State.withTrip_replica (t : Trip) : (s.withTrip t).replica = s.replica := rfl
@[simp] theorem State.withTrip_diff (t : Trip) : (s.withTrip t).diff = s.diff := rfl
@[simp] theorem State.withTrip_trip (t : Trip) : (s.withTrip t).trip = t := rfl
@[simp] theorem State.withTrip_sup (t : Trip) : (s.withTrip t).sup = s.sup := rfl
@[simp] theorem State.withTrip_ctl (t : Trip) : (s.withTrip t).ctl = { s.ctl with tripReported := t.output } := rfl
@[simp] theorem State.withTrip_svc (t : Trip) : (s.withTrip t).svc = s.svc := rfl
@[simp] theorem State.withTrip_out (t : Trip) : (s.withTrip t).out = s.out := rfl

/-! ### Fields after a reply starts -/

@[simp] theorem State.reply_pending (ls : List ReplyLine) : (s.reply ls).pending = s.pending := rfl
@[simp] theorem State.reply_pins (ls : List ReplyLine) : (s.reply ls).pins = s.pins := rfl
@[simp] theorem State.reply_health (ls : List ReplyLine) : (s.reply ls).health = s.health := rfl
@[simp] theorem State.reply_bay (ls : List ReplyLine) : (s.reply ls).bay = s.bay := rfl
@[simp] theorem State.reply_clock (ls : List ReplyLine) : (s.reply ls).clock = s.clock := rfl
@[simp] theorem State.reply_link (ls : List ReplyLine) : (s.reply ls).link = s.link := rfl
@[simp] theorem State.reply_roster (ls : List ReplyLine) : (s.reply ls).roster = s.roster := rfl
@[simp] theorem State.reply_asm (ls : List ReplyLine) : (s.reply ls).asm = s.asm := rfl
@[simp] theorem State.reply_replica (ls : List ReplyLine) : (s.reply ls).replica = s.replica := rfl
@[simp] theorem State.reply_diff (ls : List ReplyLine) : (s.reply ls).diff = s.diff := rfl
@[simp] theorem State.reply_trip (ls : List ReplyLine) : (s.reply ls).trip = s.trip := rfl
@[simp] theorem State.reply_sup (ls : List ReplyLine) : (s.reply ls).sup = s.sup := rfl
@[simp] theorem State.reply_ctl (ls : List ReplyLine) : (s.reply ls).ctl = s.ctl := rfl
@[simp] theorem State.reply_svc (ls : List ReplyLine) : (s.reply ls).svc = { s.svc with iface := .replying, reply := s.svc.reply ++ ls } := rfl
@[simp] theorem State.reply_out (ls : List ReplyLine) : (s.reply ls).out = s.out := rfl

/-! ### Fields after the line is cleared -/

@[simp] theorem State.clearLine_pending : (s.clearLine).pending = s.pending := rfl
@[simp] theorem State.clearLine_pins : (s.clearLine).pins = s.pins := rfl
@[simp] theorem State.clearLine_health : (s.clearLine).health = s.health := rfl
@[simp] theorem State.clearLine_bay : (s.clearLine).bay = s.bay := rfl
@[simp] theorem State.clearLine_clock : (s.clearLine).clock = s.clock := rfl
@[simp] theorem State.clearLine_link : (s.clearLine).link = s.link := rfl
@[simp] theorem State.clearLine_roster : (s.clearLine).roster = s.roster := rfl
@[simp] theorem State.clearLine_asm : (s.clearLine).asm = s.asm := rfl
@[simp] theorem State.clearLine_replica : (s.clearLine).replica = s.replica := rfl
@[simp] theorem State.clearLine_diff : (s.clearLine).diff = s.diff := rfl
@[simp] theorem State.clearLine_trip : (s.clearLine).trip = s.trip := rfl
@[simp] theorem State.clearLine_sup : (s.clearLine).sup = s.sup := rfl
@[simp] theorem State.clearLine_ctl : (s.clearLine).ctl = s.ctl := rfl
@[simp] theorem State.clearLine_svc : (s.clearLine).svc = { s.svc with line := Line.clear } := rfl
@[simp] theorem State.clearLine_out : (s.clearLine).out = s.out := rfl

/-! ### Fields after the levels of an instant are read -/

@[simp] theorem State.latchPins_pending (c : PerDevice Contacts) (b : Bool) : (s.latchPins c b).pending = s.pending := rfl
@[simp] theorem State.latchPins_pins (c : PerDevice Contacts) (b : Bool) : (s.latchPins c b).pins = { s.pins with contacts := c, blockIn := b } := rfl
@[simp] theorem State.latchPins_health (c : PerDevice Contacts) (b : Bool) : (s.latchPins c b).health = s.health := rfl
@[simp] theorem State.latchPins_bay (c : PerDevice Contacts) (b : Bool) : (s.latchPins c b).bay = s.bay := rfl
@[simp] theorem State.latchPins_clock (c : PerDevice Contacts) (b : Bool) : (s.latchPins c b).clock = s.clock := rfl
@[simp] theorem State.latchPins_link (c : PerDevice Contacts) (b : Bool) : (s.latchPins c b).link = s.link := rfl
@[simp] theorem State.latchPins_roster (c : PerDevice Contacts) (b : Bool) : (s.latchPins c b).roster = s.roster := rfl
@[simp] theorem State.latchPins_asm (c : PerDevice Contacts) (b : Bool) : (s.latchPins c b).asm = s.asm := rfl
@[simp] theorem State.latchPins_replica (c : PerDevice Contacts) (b : Bool) : (s.latchPins c b).replica = s.replica := rfl
@[simp] theorem State.latchPins_diff (c : PerDevice Contacts) (b : Bool) : (s.latchPins c b).diff = s.diff := rfl
@[simp] theorem State.latchPins_trip (c : PerDevice Contacts) (b : Bool) : (s.latchPins c b).trip = s.trip := rfl
@[simp] theorem State.latchPins_sup (c : PerDevice Contacts) (b : Bool) : (s.latchPins c b).sup = s.sup := rfl
@[simp] theorem State.latchPins_ctl (c : PerDevice Contacts) (b : Bool) : (s.latchPins c b).ctl = s.ctl := rfl
@[simp] theorem State.latchPins_svc (c : PerDevice Contacts) (b : Bool) : (s.latchPins c b).svc = s.svc := rfl
@[simp] theorem State.latchPins_out (c : PerDevice Contacts) (b : Bool) : (s.latchPins c b).out = s.out := rfl

/-! ### Fields after a self-test step starts -/

@[simp] theorem State.toStep_pending (n : Nat) : (s.toStep n).pending = s.pending := rfl
@[simp] theorem State.toStep_pins (n : Nat) : (s.toStep n).pins = s.pins := rfl
@[simp] theorem State.toStep_health (n : Nat) : (s.toStep n).health = s.health := rfl
@[simp] theorem State.toStep_bay (n : Nat) : (s.toStep n).bay = s.bay := rfl
@[simp] theorem State.toStep_clock (n : Nat) : (s.toStep n).clock = s.clock := rfl
@[simp] theorem State.toStep_link (n : Nat) : (s.toStep n).link = s.link := rfl
@[simp] theorem State.toStep_roster (n : Nat) : (s.toStep n).roster = s.roster := rfl
@[simp] theorem State.toStep_asm (n : Nat) : (s.toStep n).asm = s.asm := rfl
@[simp] theorem State.toStep_replica (n : Nat) : (s.toStep n).replica = s.replica := rfl
@[simp] theorem State.toStep_diff (n : Nat) : (s.toStep n).diff = s.diff := rfl
@[simp] theorem State.toStep_trip (n : Nat) : (s.toStep n).trip = s.trip := rfl
@[simp] theorem State.toStep_sup (n : Nat) : (s.toStep n).sup = s.sup := rfl
@[simp] theorem State.toStep_ctl (n : Nat) : (s.toStep n).ctl = { s.ctl with step := some n } := rfl
@[simp] theorem State.toStep_svc (n : Nat) : (s.toStep n).svc = s.svc := rfl
@[simp] theorem State.toStep_out (n : Nat) : (s.toStep n).out = s.out := rfl

/-! ### Fields after an acknowledgement -/

@[simp] theorem State.acknowledge_pending : (s.acknowledge).pending = s.pending := rfl
@[simp] theorem State.acknowledge_pins : (s.acknowledge).pins = s.pins := rfl
@[simp] theorem State.acknowledge_health : (s.acknowledge).health = s.health := rfl
@[simp] theorem State.acknowledge_bay : (s.acknowledge).bay = s.bay := rfl
@[simp] theorem State.acknowledge_clock : (s.acknowledge).clock = s.clock := rfl
@[simp] theorem State.acknowledge_link : (s.acknowledge).link = s.link := rfl
@[simp] theorem State.acknowledge_roster : (s.acknowledge).roster = s.roster := rfl
@[simp] theorem State.acknowledge_asm : (s.acknowledge).asm = s.asm := rfl
@[simp] theorem State.acknowledge_replica : (s.acknowledge).replica = s.replica := rfl
@[simp] theorem State.acknowledge_diff : (s.acknowledge).diff = s.diff := rfl
@[simp] theorem State.acknowledge_trip : (s.acknowledge).trip = s.trip := rfl
@[simp] theorem State.acknowledge_ctl : (s.acknowledge).ctl = s.ctl := rfl
@[simp] theorem State.acknowledge_svc : (s.acknowledge).svc = s.svc := rfl
@[simp] theorem State.acknowledge_out : (s.acknowledge).out = s.out := rfl

/-! ### Fields after a character is taken -/

@[simp] theorem State.takeChar_pending (b : Byte) (e : Bool) : (s.takeChar b e).pending = s.pending := rfl
@[simp] theorem State.takeChar_pins (b : Byte) (e : Bool) : (s.takeChar b e).pins = s.pins := rfl
@[simp] theorem State.takeChar_health (b : Byte) (e : Bool) : (s.takeChar b e).health = s.health := rfl
@[simp] theorem State.takeChar_bay (b : Byte) (e : Bool) : (s.takeChar b e).bay = s.bay := rfl
@[simp] theorem State.takeChar_clock (b : Byte) (e : Bool) : (s.takeChar b e).clock = s.clock := rfl
@[simp] theorem State.takeChar_link (b : Byte) (e : Bool) : (s.takeChar b e).link = s.link := rfl
@[simp] theorem State.takeChar_roster (b : Byte) (e : Bool) : (s.takeChar b e).roster = s.roster := rfl
@[simp] theorem State.takeChar_asm (b : Byte) (e : Bool) : (s.takeChar b e).asm = s.asm := rfl
@[simp] theorem State.takeChar_replica (b : Byte) (e : Bool) : (s.takeChar b e).replica = s.replica := rfl
@[simp] theorem State.takeChar_diff (b : Byte) (e : Bool) : (s.takeChar b e).diff = s.diff := rfl
@[simp] theorem State.takeChar_trip (b : Byte) (e : Bool) : (s.takeChar b e).trip = s.trip := rfl
@[simp] theorem State.takeChar_sup (b : Byte) (e : Bool) : (s.takeChar b e).sup = s.sup := rfl
@[simp] theorem State.takeChar_ctl (b : Byte) (e : Bool) : (s.takeChar b e).ctl = s.ctl := rfl
@[simp] theorem State.takeChar_svc (b : Byte) (e : Bool) : (s.takeChar b e).svc = { s.svc with line := s.svc.line.take b e } := rfl
@[simp] theorem State.takeChar_out (b : Byte) (e : Bool) : (s.takeChar b e).out = s.out := rfl

/-! ### Fields after a LOAD has ended by timeout -/

@[simp] theorem State.timeOut_pending : (s.timeOut).pending = s.pending := rfl
@[simp] theorem State.timeOut_pins : (s.timeOut).pins = s.pins := rfl
@[simp] theorem State.timeOut_health : (s.timeOut).health = s.health := rfl
@[simp] theorem State.timeOut_bay : (s.timeOut).bay = s.bay := rfl
@[simp] theorem State.timeOut_clock : (s.timeOut).clock = s.clock := rfl
@[simp] theorem State.timeOut_link : (s.timeOut).link = s.link := rfl
@[simp] theorem State.timeOut_roster : (s.timeOut).roster = s.roster := rfl
@[simp] theorem State.timeOut_asm : (s.timeOut).asm = s.asm := rfl
@[simp] theorem State.timeOut_replica : (s.timeOut).replica = s.replica := rfl
@[simp] theorem State.timeOut_diff : (s.timeOut).diff = s.diff := rfl
@[simp] theorem State.timeOut_trip : (s.timeOut).trip = s.trip := rfl
@[simp] theorem State.timeOut_sup : (s.timeOut).sup = s.sup := rfl
@[simp] theorem State.timeOut_ctl : (s.timeOut).ctl = s.ctl := rfl
@[simp] theorem State.timeOut_svc : (s.timeOut).svc = { s.svc with iface := .collecting, reply := s.svc.reply ++ [.error .tmout] } := rfl
@[simp] theorem State.timeOut_out : (s.timeOut).out = s.out := rfl

/-! ### Readings of the state with its outputs driven -/

@[simp] theorem State.driven_resetHeld : s.driven.resetHeld = s.resetHeld := rfl
@[simp] theorem State.driven_working : s.driven.working = s.working := rfl
@[simp] theorem State.driven_inRun : s.driven.inRun = s.inRun := rfl
@[simp] theorem State.driven_entry (n : Station) : s.driven.entry n = s.entry n := rfl
@[simp] theorem State.driven_outputs : s.driven.outputs = s.outputs := by
  simp only [State.outputs, State.txErrorOut, State.driven, PerPath.get, Bool.and_assoc, Bool.and_self]
  rfl
@[simp] theorem State.driven_attachedGroup (g : Zone) : s.driven.attachedGroup g = s.attachedGroup g := rfl

/-- A command that answers a state has driven its outputs. -/
@[simp] theorem answer_eq : answer s = .next s.driven := rfl

/-- What an answer says about the next state. -/
theorem answer_eq_next {t : State} : answer s = .next t ↔ t = s.driven := by
  rw [answer_eq, Host.Outcome.next.injEq, eq_comm]

/-! ### Roster entries -/

/-- An entry after a change of one entry. -/
@[simp] theorem State.entry_onEntry (n m : Station) (f : Entry → Entry) :
    (s.onEntry n f).entry m = if m = n then f (s.entry n) else s.entry m := by
  simp [State.entry, State.onEntry]

/-! ### Paths -/

/-- The transmit error that the driven outputs show on a path. -/
@[simp] theorem State.outputs_txError (p : Path) : s.outputs.txError.get p = s.txErrorOut p := by cases p <;> rfl

/-- A path after a change of one path. -/
@[simp] theorem Link.get_onPath (l : Link) (p q : Path) (f : PathCtl → PathCtl) :
    (l.onPath p f).paths.get q = if q = p then f (l.paths.get p) else l.paths.get q := by
  simp [Link.onPath]

@[simp] theorem Link.onPath_queryPending (l : Link) (p : Path) (f : PathCtl → PathCtl) :
    (l.onPath p f).queryPending = l.queryPending := rfl
@[simp] theorem Link.onPath_statusPending (l : Link) (p : Path) (f : PathCtl → PathCtl) :
    (l.onPath p f).statusPending = l.statusPending := rfl

end Sys2Proof.Machine
end

