-- ==== Sys2Proof/Laws/Ops.lean ====
section
/-! SUPPORT. For each operation that the families share, one lemma that says what it can do. -/

namespace Sys2Proof.Machine

variable (s : State)

/-! ### Modes and resets -/

/-- RUN or TEST with no reset. -/
theorem State.working_iff : s.working = true ↔
    (s.ctl.mode = .run ∨ s.ctl.mode = .test) ∧ s.pins.porstLow = false ∧ s.pins.wrstLow = false := by
  simp [State.working, State.resetHeld]

/-- RUN with no reset. -/
theorem State.inRun_iff : s.inRun = true ↔ s.ctl.mode = .run ∧ s.pins.porstLow = false ∧ s.pins.wrstLow = false := by
  simp [State.inRun, State.resetHeld]

/-- A station in RUN is working. -/
theorem State.working_of_inRun (h : s.inRun = true) : s.working = true := by
  rw [State.inRun_iff] at h
  rw [State.working_iff]
  exact ⟨.inl h.1, h.2⟩

/-- No reset holds the station. -/
theorem State.resetHeld_eq_false : s.resetHeld = false ↔ s.pins.porstLow = false ∧ s.pins.wrstLow = false := by
  simp [State.resetHeld]

/-- The self-test is at a step. -/
theorem State.atStep_iff (n : Nat) :
    s.atStep n = true ↔ s.ctl.mode = .selftest ∧ s.ctl.step = some n ∧ s.resetHeld = false := by
  simp [State.atStep, and_assoc]

/-! ### The passage of time -/

/-- Time changes the progress of a conversion and ends the pulse on CONV, and nothing else of the Bay Input
Unit. -/
theorem Bay.elapse_eq (n : Nat) (b : Bay) :
    ∃ w r, b.elapse n = { b with wait := w, readTicks := r, convLine := b.convLine && n == 0 } := by
  unfold Bay.elapse Bay.progress
  split
  · exact ⟨b.wait, b.readTicks, rfl⟩
  · exact ⟨_, b.readTicks, rfl⟩
  · exact ⟨b.wait, _, rfl⟩

/-- Time changes the transfer timer alone. -/
theorem Service.elapse_eq (n : Nat) (v : Service) : ∃ t, v.elapse n = { v with timer := t } := by
  unfold Service.elapse
  split
  · exact ⟨_, rfl⟩
  · exact ⟨v.timer, rfl⟩

/-- Time while the station works. -/
theorem State.elapse_working (h : s.working = true) (n : Nat) :
    s.elapse n = { s with
      clock := ({ s.clock with tick := s.clock.tick + BitVec.ofNat 32 n } : Clock).elapseTimers n
      svc := s.svc.elapse n
      bay := s.bay.elapse n } := by
  rw [State.working_iff] at h
  rcases h.1 with h1 | h1 <;> simp [State.elapse, h, h1]

/-- Time in CONFIG. -/
theorem State.elapse_config (h : s.resetHeld = false) (h1 : s.ctl.mode = .config) (n : Nat) :
    s.elapse n = { s with
      clock := { s.clock with tick := s.clock.tick + BitVec.ofNat 32 n }, svc := s.svc.elapse n } := by
  rw [State.resetHeld_eq_false] at h
  simp [State.elapse, h, h1]

/-- Time in the self-test. -/
theorem State.elapse_selftest (h : s.resetHeld = false) (h1 : s.ctl.mode = .selftest) (n : Nat) :
    s.elapse n = { s with
      clock := { s.clock with tick := s.clock.tick + BitVec.ofNat 32 n }
      svc := s.svc.elapse n
      bay := s.bay.elapse n
      ctl := s.ctl.elapse n } := by
  rw [State.resetHeld_eq_false] at h
  simp [State.elapse, h, h1]

/-- Whatever the mode, time changes ticks and timers alone. -/
theorem State.elapse_fields (n : Nat) :
    (s.elapse n).pending = s.pending ∧ (s.elapse n).pins = s.pins ∧ (s.elapse n).health = s.health
      ∧ (s.elapse n).link = s.link ∧ (s.elapse n).roster = s.roster ∧ (s.elapse n).asm = s.asm
      ∧ (s.elapse n).replica = s.replica ∧ (s.elapse n).diff = s.diff ∧ (s.elapse n).trip = s.trip
      ∧ (s.elapse n).sup = s.sup ∧ (s.elapse n).out = s.out := by
  unfold State.elapse
  split_ifs
  · simp
  · simp
  · split <;> simp

/-- Whatever the mode, time keeps the mode, the store and what is reported of TRIP. -/
theorem State.elapse_ctl (n : Nat) :
    (s.elapse n).ctl.mode = s.ctl.mode ∧ (s.elapse n).ctl.step = s.ctl.step
      ∧ (s.elapse n).ctl.store = s.ctl.store ∧ (s.elapse n).ctl.block = s.ctl.block
      ∧ (s.elapse n).ctl.signature = s.ctl.signature ∧ (s.elapse n).ctl.strap = s.ctl.strap
      ∧ (s.elapse n).ctl.pben = s.ctl.pben ∧ (s.elapse n).ctl.tripReported = s.ctl.tripReported := by
  unfold State.elapse
  split_ifs
  · simp
  · simp
  · split <;> simp [Ctl.elapse]

/-- Whatever the mode, time keeps the index, the trim and the sync state. -/
theorem State.elapse_clock (n : Nat) :
    (s.elapse n).clock.index = s.clock.index ∧ (s.elapse n).clock.trim = s.clock.trim
      ∧ (s.elapse n).clock.sync = s.clock.sync ∧ (s.elapse n).clock.stepDue = s.clock.stepDue := by
  unfold State.elapse
  split_ifs
  · simp
  · simp
  · split <;> simp [Clock.elapseTimers]

/-- A station that does not work takes no sample instant, so any time can pass. -/
theorem State.passes_idle (h : s.working = false) (n : Nat) : s.passes n = true := by simp [State.passes, h]

/-! ### Timed events -/

/-- No event is earliest exactly when there is none. -/
theorem earliest_eq_none (xs : List (Nat × Timed)) : earliest xs = none ↔ xs = [] := by
  cases xs with
  | nil => simp [earliest]
  | cons x xs =>
    simp only [earliest, reduceCtorEq, iff_false]
    cases earliest xs with
    | none => simp
    | some y => by_cases h : x.1 ≤ y.1 <;> simp [h]

/-- Every timed event is in the list of them. -/
theorem Timed.mem_all (e : Timed) : e ∈ Timed.all := by cases e <;> decide

/-- Nothing timed falls before `n` ticks have passed exactly when each timer that runs has at least `n` left. -/
theorem State.firstTimed_eq_none (n : Nat) :
    s.firstTimed n = none ↔ ∀ e m, s.ticksTo e = some m → n ≤ m := by
  rw [State.firstTimed, earliest_eq_none, List.filterMap_eq_nil_iff]
  constructor
  · intro h e m he
    have := h e (Timed.mem_all e)
    simp only [he, Option.filter_some] at this
    by_contra hc
    simp [Nat.lt_of_not_le hc] at this
  · intro h e _
    cases he : s.ticksTo e with
    | none => rfl
    | some m => simp [Option.filter_some, Nat.not_lt.2 (h e m he)]

/-- Ticks in which nothing timed falls only pass. -/
theorem State.pass_quiet (n : Nat) (h : s.firstTimed n = none) : s.pass n = s.elapse n := by
  simp [State.pass, State.passN, h]

/-- A property that time and every timed event keep is kept by the ticks of a command. -/
theorem State.pass_keeps {P : State → Prop} (h : ∀ u n, P u → P (u.elapse n)) (h1 : ∀ u e, P u → P (u.takeTimed e))
    (n : Nat) {s : State} (hs : P s) : P (s.pass n) := by
  unfold State.pass
  generalize Config.passFuel = fuel
  induction fuel generalizing s n with
  | zero => exact h s n hs
  | succ fuel ih =>
    unfold State.passN
    split
    · exact h s n hs
    · exact ih _ (h1 _ _ (h s _ hs))

/-- The row of a timed event: nothing but what is due before it, or its time passes and it is taken if it is
still due. -/
theorem State.timedRow_cases (e : Timed) :
    s.timedRow e = s.settleDue ∨ ∃ n, s.settleDue.ticksTo e = some n ∧ s.settleDue.passes n = true ∧
      s.timedRow e = (s.settleDue.pass n).takeDue e := by
  unfold State.timedRow
  dsimp only
  cases he : s.settleDue.ticksTo e with
  | none => exact .inl rfl
  | some n =>
    cases hp : s.settleDue.passes n
    · exact .inl (by simp [hp])
    · exact .inr ⟨n, rfl, hp, by simp [hp]⟩

/-- The row of a timed event that comes before every other and before the next instant. -/
theorem State.timedRow_quiet (e : Timed) (n : Nat) (h : s.settleDue = s) (h1 : s.ticksTo e = some n)
    (h2 : s.passes n = true) (h3 : s.firstTimed n = none) : s.timedRow e = (s.elapse n).takeDue e := by
  simp [State.timedRow, h, h1, h2, State.pass_quiet s n h3]

/-! ### Sync states and periods -/

/-- What the entry to a sync state leaves as it was. -/
theorem Clock.enter_fields (c : Clock) (n : SyncState) :
    (c.enter n).sync = n ∧ (c.enter n).stepDue = none ∧ (c.enter n).index = c.index ∧ (c.enter n).tick = c.tick
      ∧ (c.enter n).frac = c.frac ∧ (c.enter n).trim = c.trim ∧ (c.enter n).taken = c.taken
      ∧ (c.enter n).remaining = c.remaining ∧ (c.enter n).instants = c.instants
      ∧ (c.enter n).lastEdge = c.lastEdge ∧ (c.enter n).sinceEdge = c.sinceEdge
      ∧ (c.enter n).validRun = c.validRun ∧ (c.enter n).qualified = c.qualified
      ∧ (c.enter n).codes = c.codes ∧ (c.enter n).authority = c.authority
      ∧ (c.enter n).lastMark = c.lastMark := by
  cases n <;>
    simp [Clock.enter, Clock.entrySets, SyncState.acceptable, SyncState.drifts, Clock.clearSlew, Clock.clearBatch]

/-- The start of a period sets the period, whether it carries a slew step, the interval and the fraction. -/
theorem Clock.startPeriod_fields (c : Clock) :
    c.startPeriod.index = c.index ∧ c.startPeriod.tick = c.tick ∧ c.startPeriod.trim = c.trim
      ∧ c.startPeriod.slew = c.slew ∧ c.startPeriod.sync = c.sync ∧ c.startPeriod.instants = c.instants
      ∧ c.startPeriod.taken = c.taken ∧ c.startPeriod.period = 2560000 + c.trim + slewStep c.slew :=
  ⟨rfl, rfl, rfl, rfl, rfl, rfl, rfl, rfl⟩

/-- Without a step due nothing is taken. -/
theorem State.takeStep_none (h : s.clock.stepDue = none) : s.takeStep = s := by simp [State.takeStep, h]

/-- A step is taken in RUN in ACQUIRING with a base due, and nothing happens otherwise. -/
theorem State.takeStep_cases :
    s.takeStep = s ∨ ∃ b, s.clock.stepDue = some b ∧ s.inRun = true ∧ s.clock.sync = .acquiring ∧
      s.takeStep = { s with
        clock := s.clock.step b, bay := s.bay.abandon, asm := s.asm.flush, diff := s.diff.clearWindows } := by
  unfold State.takeStep
  split
  · exact .inl rfl
  · rename_i b hb
    split_ifs with h
    · simp only [Bool.and_eq_true, beq_iff_eq] at h
      exact .inr ⟨b, hb, h.1, h.2, rfl⟩
    · exact .inl rfl

/-! ### Paths -/

/-- The evaluation of a path changes its state alone. -/
theorem PathCtl.evaluate_fields (p : PathCtl) : ∃ st, p.evaluate = { p with state := st } := ⟨_, rfl⟩

/-- Charging a path that is not DOWN. -/
theorem PathCtl.charge_health (p : PathCtl) (n : Nat) (h : p.state ≠ .down) :
    (p.charge n).health = min 255 (p.health + n) := by
  simp [PathCtl.charge, h, PathCtl.evaluate]

/-- Crediting a path that is not DOWN. -/
theorem PathCtl.credit_health (p : PathCtl) (h : p.state ≠ .down) : p.credit.health = p.health - 1 := by
  simp [PathCtl.credit, h, PathCtl.evaluate]

/-- A frame on a path that takes it, with no step due, is judged. -/
theorem exec_arrival (p : Path) (bytes : List Byte) (e : Bool) (h : s.clock.stepDue = none) (h1 : s.inRun = true)
    (h2 : (s.link.paths.get p).state ≠ .down) :
    exec (.arrival p bytes e) s = .next (s.judgeFrame p bytes e).driven := by
  simp [exec, execArrival, State.takeStep_none s h, State.receives, h1, h2]

/-- A frame that passes the five steps is accepted. -/
theorem State.judgeFrame_accepted (p : Path) (bytes : List Byte) (f : Frame) (h : frameGood bytes false = true)
    (h1 : s.schemeFrame bytes = true) (h2 : parseFrame bytes = some f) (h3 : s.inMask f.sender = true)
    (h4 : s.isOwn f.sender = false) : s.judgeFrame p bytes false = s.acceptFrame p f := by
  simp [State.judgeFrame, h, h1, h2, State.judgeSender, h3, State.judgeOwn, h4]

/-! ### Block reasons -/

/-- A change of reasons keeps each slot's reasons. -/
theorem Diff.reblock_blocked (b d : Diff) (g : Zone) :
    (Diff.reblock b d).blocked ((Diff.reblock b d).groups.get g) = d.blocked (d.groups.get g) := by
  unfold Diff.reblock
  simp only [Tab.get_ofFn]
  generalize (!b.blocked (b.groups.get g) && d.blocked (d.groups.get g)) = c
  cases c <;> rfl

/-- The same of the check zone. -/
theorem Diff.reblock_checkBlocked (b d : Diff) :
    (Diff.reblock b d).blocked (Diff.reblock b d).check = d.blocked d.check := by
  unfold Diff.reblock
  generalize (!b.blocked b.check && d.blocked d.check) = c
  cases c <;> rfl

/-- A slot that a change of reasons blocks is out of OPERATE after it; one that stays as it was keeps it. -/
theorem Diff.reblock_operate (b d : Diff) (g : Zone) :
    ((Diff.reblock b d).groups.get g).operate
      = ((d.groups.get g).operate && (b.blocked (b.groups.get g) || !d.blocked (d.groups.get g))) := by
  simp only [Diff.reblock, Tab.get_ofFn]
  cases b.blocked (b.groups.get g) <;> cases d.blocked (d.groups.get g) <;> simp [Slot.unoperate]

/-- The same of the check zone. -/
theorem Diff.reblock_checkOperate (b d : Diff) :
    (Diff.reblock b d).check.operate = (d.check.operate && (b.blocked b.check || !d.blocked d.check)) := by
  simp only [Diff.reblock]
  cases b.blocked b.check <;> cases d.blocked d.check <;> simp [Slot.unoperate]

/-! ### Leaving a mode and halting -/

/-- Leaving a mode releases TRIP and keeps the mode, the roster, the sets and the windows. -/
theorem State.leaveMode_fields :
    s.leaveMode.ctl.mode = s.ctl.mode ∧ s.leaveMode.pending = s.pending ∧ s.leaveMode.pins = s.pins
      ∧ s.leaveMode.health = s.health ∧ s.leaveMode.roster = s.roster ∧ s.leaveMode.asm = s.asm
      ∧ s.leaveMode.replica = s.replica ∧ s.leaveMode.diff = s.diff ∧ s.leaveMode.sup = s.sup
      ∧ s.leaveMode.svc = s.svc ∧ s.leaveMode.ctl.store = s.ctl.store ∧ s.leaveMode.ctl.block = s.ctl.block := by
  unfold State.leaveMode
  split_ifs <;> simp

/-- A cut signals a transmit error on each of its paths that has a frame in transmission, and changes no other
output. -/
theorem State.cutErrors_eq (cut : PerPath Bool) :
    s.cutErrors cut = { s.out with txError := (s.cutErrors cut).txError }
      ∧ ∀ p, (s.cutErrors cut).txError.get p
        = (s.out.txError.get p || (cut.get p && (s.link.paths.get p).sending.isSome)) :=
  ⟨rfl, fun p => by cases p <;> rfl⟩

/-- Leaving RUN signals a transmit error on each path whose frame it cuts off; leaving another mode none. -/
theorem State.leaveMode_txError (p : Path) : s.leaveMode.out.txError.get p
    = (s.out.txError.get p || (decide (s.ctl.mode = .run) && (s.link.paths.get p).sending.isSome)) := by
  unfold State.leaveMode
  by_cases h : s.ctl.mode = .run
  · simp [h, (s.cutErrors_eq (.const true)).2 p]
  · split_ifs <;> simp [h]

/-- HALTED is entered with a record, or stays as it was. -/
theorem State.halt_cases (code : HaltCode) (second : Option FaultReport) :
    (s.ctl.mode = .halted ∧ s.halt code second = s) ∨
      (s.ctl.mode ≠ .halted ∧ (s.halt code second).ctl.mode = .halted
        ∧ (s.halt code second).sup.halt
            = some ⟨code, if s.clock.taken then some s.clock.index else none, s.ctl.mode, second⟩
        ∧ (s.halt code second).sup.fault = s.sup.fault ∧ (s.halt code second).asm = s.asm
        ∧ (s.halt code second).diff = s.diff ∧ (s.halt code second).roster = s.roster
        ∧ (s.halt code second).replica = s.replica) := by
  unfold State.halt
  have h := s.leaveMode_fields
  by_cases hm : s.ctl.mode = .halted
  · exact .inl ⟨hm, by simp [hm]⟩
  · exact .inr (by simp [hm, h])

/-- A blocking fault is ignored outside RUN and TEST, counts a repeat, writes a record, or halts. -/
theorem State.takeFault_cases (f : FaultReport) :
    (s.working = false ∧ s.takeFault f = s)
      ∨ (∃ r, s.sup.fault = some r ∧ r.report = f ∧ s.takeFault f
          = { s with sup := { s.sup with fault := some { r with repeats := satInc Config.count16 r.repeats } } })
      ∨ ((s.sup.fault = none ∨ ∃ r, s.sup.fault = some r ∧ r.report ≠ f ∧ r.acknowledged = true)
          ∧ s.takeFault f = s.writeFault f)
      ∨ (∃ r, s.sup.fault = some r ∧ r.report ≠ f ∧ r.acknowledged = false
          ∧ s.takeFault f = s.halt .doubleFault (some f)) := by
  unfold State.takeFault
  cases hw : s.working
  · exact .inl ⟨rfl, by simp⟩
  · right
    cases hf : s.sup.fault with
    | none => exact .inr (.inl ⟨.inl rfl, by simp⟩)
    | some r =>
      by_cases hr : r.report = f
      · exact .inl ⟨r, rfl, hr, by simp [hr]⟩
      · right
        cases ha : r.acknowledged
        · exact .inr ⟨r, rfl, hr, ha, by simp [hr, ha]⟩
        · exact .inl ⟨.inr ⟨r, rfl, hr, ha⟩, by simp [hr, ha]⟩

/-- A property that one blocking fault keeps is kept by a list of reports. -/
theorem State.takeFaults_keeps {P : State → Prop} (h : ∀ u f, P u → P (u.takeFault f)) (fs : List FaultReport)
    {s : State} (hs : P s) : P (s.takeFaults fs) := by
  unfold State.takeFaults
  induction fs generalizing s with
  | nil => exact hs
  | cons f fs ih => exact ih (h s f hs)

/-! ### Closures -/

/-- With no deadline reached nothing closes. -/
theorem State.overdue_none (h : s.headDue = false) : s.overdue = s := by
  unfold State.overdue
  cases s.asm.openSets.length <;> simp [State.overdueN, h]

/-- With no step due and no deadline reached nothing is due. -/
theorem State.settleDue_none (h : s.clock.stepDue = none) (h1 : s.headDue = false) : s.settleDue = s := by
  rw [State.settleDue, State.takeStep_none s h, State.overdue_none s h1]

/-- Outside RUN and TEST nothing is due. -/
theorem State.settleDue_idle (h : s.working = false) : s.settleDue = s := by
  have h1 : s.inRun = false := by
    by_contra hc
    rw [Bool.not_eq_false] at hc
    simp [State.working_of_inRun s hc] at h
  have h2 : s.takeStep = s := by
    rcases s.takeStep_cases with h3 | ⟨b, _, h3, _⟩
    · exact h3
    · simp [h1] at h3
  have h3 : s.headDue = false := by
    unfold State.headDue
    split <;> simp [h]
  rw [State.settleDue, h2, State.overdue_none s h3]

/-- A property that every closure keeps is kept while complete sets close. -/
theorem State.closeComplete_keeps {P : State → Prop} (h : ∀ u, P u → P u.closeHead) {s : State} (hs : P s) :
    P s.closeComplete := by
  unfold State.closeComplete
  generalize s.asm.openSets.length = n
  induction n generalizing s with
  | zero => exact hs
  | succ n ih =>
    unfold State.closeCompleteN
    split_ifs
    · exact ih (h s hs)
    · exact hs

/-- A property that every closure keeps is kept by a deadline. -/
theorem State.deadline_keeps {P : State → Prop} (h : ∀ u, P u → P u.closeHead) {s : State} (hs : P s) :
    P s.deadline := by
  unfold State.deadline
  split_ifs
  · exact State.closeComplete_keeps h (h s hs)
  · exact hs

/-- A property that every closure keeps is kept by the deadlines that stand reached. -/
theorem State.overdue_keeps {P : State → Prop} (h : ∀ u, P u → P u.closeHead) {s : State} (hs : P s) :
    P s.overdue := by
  unfold State.overdue
  generalize s.asm.openSets.length = n
  induction n generalizing s with
  | zero => exact hs
  | succ n ih =>
    unfold State.overdueN
    split_ifs
    · exact ih (State.deadline_keeps h hs)
    · exact hs

/-- A closure leaves no set open, is finished, or stops in HALTED. -/
theorem State.closeHead_cases :
    (s.asm.openSets = [] ∧ s.closeHead = s) ∨ ∃ o rest, s.asm.openSets = o :: rest ∧
      (((s.closureWork o).isHalted = false ∧ s.closeHead = (s.closureWork o).recheckClosure)
        ∨ ((s.closureWork o).isHalted = true ∧ s.closeHead = s.abortClosure (s.closureWork o))) := by
  unfold State.closeHead
  cases h : s.asm.openSets with
  | nil => exact .inl ⟨rfl, rfl⟩
  | cons o rest =>
    refine .inr ⟨o, rest, rfl, ?_⟩
    simp only [State.closeSet]
    cases (s.closureWork o).isHalted
    · exact .inl ⟨rfl, by simp⟩
    · exact .inr ⟨rfl, by simp⟩

/-! ### The service line -/

/-- In COLLECTING characters are taken. -/
theorem State.collects_of_collecting (h : s.resetHeld = false) (h1 : s.svc.iface = .collecting) :
    s.collects = true := by simp [State.collects, h, h1]

/-- In COLLECTING no transfer is overdue. -/
theorem State.lateLoad_collecting (h : s.svc.iface = .collecting) : s.lateLoad = s := by
  simp [State.lateLoad, Service.overdue, Service.timerRuns, h]

/-- In REPLYING no transfer is overdue. -/
theorem State.lateLoad_replying (h : s.svc.iface = .replying) : s.lateLoad = s := by
  simp [State.lateLoad, Service.overdue, Service.timerRuns, h]

/-- A byte that is not overdue is taken by its state. -/
theorem State.loadByte_taken (i : IfState) (b : Byte) (e : Bool) (f : State → State) (h : s.ifaceIs i = true)
    (h1 : s.svc.overdue = false) : s.loadByte i b e f = f s := by
  simp [State.loadByte, h, h1]

/-- A line that is not dropped holds a word. -/
theorem wordsOf_of_row (l : Line) (h : lineRow l ≠ .dropped) : ∃ w rest, wordsOf l.buf = w :: rest := by
  unfold lineRow at h
  split at h
  · exact absurd rfl h
  · rename_i w r e
    exact ⟨w, r, e⟩

/-- A line of a command's row has no flag and names that command. -/
theorem command_of_row (l : Line) (r : LineRow) (h : lineRow l = r) (h1 : r ≠ .illCmd) (h2 : r ≠ .dropped) :
    ∃ w rest c, wordsOf l.buf = w :: rest ∧ l.long = false ∧ l.framing = false ∧ commandOf w = some c
      ∧ commandRow c rest = r := by
  obtain ⟨w, rest, hw⟩ := wordsOf_of_row l (by rw [h]; exact h2)
  unfold lineRow at h
  rw [hw] at h
  simp only [] at h
  cases hl : l.long <;> cases hf : l.framing <;> simp [hl, hf] at h
  · cases hc : commandOf w with
    | none => simp [hc] at h; exact absurd h.symm h1
    | some c => simp [hc] at h; exact ⟨w, rest, c, hw, rfl, rfl, hc, h⟩
  · exact absurd h.symm h1
  · exact absurd h.symm h1
  · exact absurd h.symm h1

/-- In COLLECTING a row's line is interpreted at once. -/
theorem State.lineCommand_collecting (row : LineRow) (cs : List Byte) (e : Bool) (h : s.resetHeld = false)
    (h1 : s.svc.iface = .collecting) (h2 : lineRow (s.lineEnded cs e) = row) :
    s.lineCommand row cs e = s.clearLine.interpret (s.lineEnded cs e) := by
  simp [State.lineCommand, s.lateLoad_collecting h1, s.collects_of_collecting h h1, h2, State.endLine, h1]

/-- In REPLYING a row's line is held while none is. -/
theorem State.lineCommand_replying (row : LineRow) (cs : List Byte) (e : Bool) (h : s.resetHeld = false)
    (h1 : s.svc.iface = .replying) (h2 : s.svc.held = none) (h3 : lineRow (s.lineEnded cs e) = row) :
    s.lineCommand row cs e
      = { s.clearLine with svc := { s.clearLine.svc with held := some (s.lineEnded cs e) } } := by
  simp [State.lineCommand, s.lateLoad_replying h1, State.collects, h, h1, h2, h3, State.endLine]

end Sys2Proof.Machine
end

