-- ==== Sys2Proof/WellFormed.lean ====
section
/-! DEFINITION. Which commands are well formed: a line's characters hold no CR, since the CR is what
ends the line (R194), and CHARACTER_RECEIVED brings a character other than CR (its row). -/

namespace Sys2Proof

/-- The carriage return that ends a line (R194). -/
def crByte : Byte := 0x0D#8

/-- No character of a line is the CR that ends it (R194). -/
def noCr (chars : List Byte) : Bool := chars.all (· != crByte)

/-- The characters a command brings before its CR, for the commands that end a line. -/
def Instr.lineChars : Instr → List Byte
  | .lineDropped c => c
  | .illCmd c _ => c
  | .load c => c
  | .commit c => c
  | .test c => c
  | .endtest c => c
  | .stop c => c
  | .warm c => c
  | .ack c => c
  | .examine c => c
  | .examineNext c => c
  | .examineAgain c => c
  | .coldReset | .porstRise _ _ | .warmReset | .wrstRise | .storageTest _ | .conversionAttempt
  | .loopbackReturn _ _ | .loopbackTimeout | .mclkCheck _ | .sampleInstant _ _ | .travelExpiry _
  | .drdyRise | .adcTimeout | .readComplete _ | .ppsEdge | .ppsTimeout | .markMissing
  | .acquisitionStep | .holdoverLimit | .syncLoss | .arrival _ _ _ | .transmitEnd _
  | .linkUpFall _ | .linkUpRise _ | .conflictClear | .peerSilent _ | .setDeadline | .endOpen _
  | .holdCounterExpiry _ | .dropOffExpiry _ | .bfTimerExpiry | .minimumTimeExpiry
  | .configRecheck | .replyEnd | .loadChecksumByte _ _ | .loadSumTimeout | .loadDataByte _ _
  | .loadDataChecksum _ _ | .loadDataTimeout | .characterReceived _ _ | .promptLfSent => []

/-- The character a command brings by itself, if it is CHARACTER_RECEIVED. -/
def Instr.singleChar : Instr → Option Byte
  | .characterReceived b _ => some b
  | .coldReset | .porstRise _ _ | .warmReset | .wrstRise | .storageTest _ | .conversionAttempt
  | .loopbackReturn _ _ | .loopbackTimeout | .mclkCheck _ | .sampleInstant _ _ | .travelExpiry _
  | .drdyRise | .adcTimeout | .readComplete _ | .ppsEdge | .ppsTimeout | .markMissing
  | .acquisitionStep | .holdoverLimit | .syncLoss | .arrival _ _ _ | .transmitEnd _
  | .linkUpFall _ | .linkUpRise _ | .conflictClear | .peerSilent _ | .setDeadline | .endOpen _
  | .holdCounterExpiry _ | .dropOffExpiry _ | .bfTimerExpiry | .minimumTimeExpiry
  | .configRecheck | .replyEnd | .loadChecksumByte _ _ | .loadSumTimeout | .loadDataByte _ _
  | .loadDataChecksum _ _ | .loadDataTimeout | .promptLfSent | .lineDropped _ | .illCmd _ _
  | .load _ | .commit _ | .test _ | .endtest _ | .stop _ | .warm _ | .ack _ | .examine _
  | .examineNext _ | .examineAgain _ => none

/-- A command is well formed when no character it brings is a CR. -/
def Instr.wellFormed (i : Instr) : Bool :=
  noCr i.lineChars && i.singleChar != some crByte

end Sys2Proof
end

