-- ==== Sys2Proof/Laws/PerInstr.lean ====
section
/-! SUPPORT. The form of every command, constructor by constructor: what well-formedness asks of the
characters it brings (R194). -/

namespace Sys2Proof.Laws.LineForm

/-- A command is well formed exactly when no character it brings is a CR, and a command brings either a
line's characters or a single one. -/
def Statement (i : Instr) : Prop :=
  (i.wellFormed = true ↔ 0x0D#8 ∉ i.lineChars ∧ i.singleChar ≠ some 0x0D#8)
    ∧ (i.singleChar.isSome = true → i.lineChars = [])

/-- The first half holds of every command. -/
theorem wellFormed_iff (i : Instr) :
    i.wellFormed = true ↔ 0x0D#8 ∉ i.lineChars ∧ i.singleChar ≠ some 0x0D#8 := by
  simp only [Instr.wellFormed, noCr, crByte, Bool.and_eq_true, List.all_eq_true, bne_iff_ne]
  exact and_congr_left fun _ => ⟨fun h hm => h _ hm rfl, fun h x hx he => h (he ▸ hx)⟩

theorem coldReset : Statement .coldReset := ⟨wellFormed_iff _, fun _ => rfl⟩
theorem porstRise (stn : BitVec 5) (pben : Bool) : Statement (.porstRise stn pben) := ⟨wellFormed_iff _, fun _ => rfl⟩
theorem warmReset : Statement .warmReset := ⟨wellFormed_iff _, fun _ => rfl⟩
theorem wrstRise : Statement .wrstRise := ⟨wellFormed_iff _, fun _ => rfl⟩
theorem storageTest (passed : Bool) : Statement (.storageTest passed) := ⟨wellFormed_iff _, fun _ => rfl⟩
theorem conversionAttempt : Statement .conversionAttempt := ⟨wellFormed_iff _, fun _ => rfl⟩
theorem loopbackReturn (frame : List Byte) (e : Bool) : Statement (.loopbackReturn frame e) := ⟨wellFormed_iff _, fun _ => rfl⟩
theorem loopbackTimeout : Statement .loopbackTimeout := ⟨wellFormed_iff _, fun _ => rfl⟩
theorem mclkCheck (n : Nat) : Statement (.mclkCheck n) := ⟨wellFormed_iff _, fun _ => rfl⟩
theorem sampleInstant (c : PerDevice Contacts) (b : Bool) : Statement (.sampleInstant c b) := ⟨wellFormed_iff _, fun _ => rfl⟩
theorem travelExpiry (d : Device) : Statement (.travelExpiry d) := ⟨wellFormed_iff _, fun _ => rfl⟩
theorem drdyRise : Statement .drdyRise := ⟨wellFormed_iff _, fun _ => rfl⟩
theorem adcTimeout : Statement .adcTimeout := ⟨wellFormed_iff _, fun _ => rfl⟩
theorem readComplete (w : BitVec 64) : Statement (.readComplete w) := ⟨wellFormed_iff _, fun _ => rfl⟩
theorem ppsEdge : Statement .ppsEdge := ⟨wellFormed_iff _, fun _ => rfl⟩
theorem ppsTimeout : Statement .ppsTimeout := ⟨wellFormed_iff _, fun _ => rfl⟩
theorem markMissing : Statement .markMissing := ⟨wellFormed_iff _, fun _ => rfl⟩
theorem acquisitionStep : Statement .acquisitionStep := ⟨wellFormed_iff _, fun _ => rfl⟩
theorem holdoverLimit : Statement .holdoverLimit := ⟨wellFormed_iff _, fun _ => rfl⟩
theorem syncLoss : Statement .syncLoss := ⟨wellFormed_iff _, fun _ => rfl⟩
theorem arrival (p : Path) (f : List Byte) (e : Bool) : Statement (.arrival p f e) := ⟨wellFormed_iff _, fun _ => rfl⟩
theorem transmitEnd (p : Path) : Statement (.transmitEnd p) := ⟨wellFormed_iff _, fun _ => rfl⟩
theorem linkUpFall (p : Path) : Statement (.linkUpFall p) := ⟨wellFormed_iff _, fun _ => rfl⟩
theorem linkUpRise (p : Path) : Statement (.linkUpRise p) := ⟨wellFormed_iff _, fun _ => rfl⟩
theorem conflictClear : Statement .conflictClear := ⟨wellFormed_iff _, fun _ => rfl⟩
theorem peerSilent (n : Station) : Statement (.peerSilent n) := ⟨wellFormed_iff _, fun _ => rfl⟩
theorem setDeadline : Statement .setDeadline := ⟨wellFormed_iff _, fun _ => rfl⟩
theorem endOpen (n : Station) : Statement (.endOpen n) := ⟨wellFormed_iff _, fun _ => rfl⟩
theorem holdCounterExpiry (g : Zone) : Statement (.holdCounterExpiry g) := ⟨wellFormed_iff _, fun _ => rfl⟩
theorem dropOffExpiry (q : SlotName) : Statement (.dropOffExpiry q) := ⟨wellFormed_iff _, fun _ => rfl⟩
theorem bfTimerExpiry : Statement .bfTimerExpiry := ⟨wellFormed_iff _, fun _ => rfl⟩
theorem minimumTimeExpiry : Statement .minimumTimeExpiry := ⟨wellFormed_iff _, fun _ => rfl⟩
theorem configRecheck : Statement .configRecheck := ⟨wellFormed_iff _, fun _ => rfl⟩
theorem lineDropped (cs : List Byte) : Statement (.lineDropped cs) := ⟨wellFormed_iff _, nofun⟩
theorem illCmd (cs : List Byte) (e : Bool) : Statement (.illCmd cs e) := ⟨wellFormed_iff _, nofun⟩
theorem replyEnd : Statement .replyEnd := ⟨wellFormed_iff _, fun _ => rfl⟩
theorem load (cs : List Byte) : Statement (.load cs) := ⟨wellFormed_iff _, nofun⟩
theorem loadChecksumByte (b : Byte) (e : Bool) : Statement (.loadChecksumByte b e) := ⟨wellFormed_iff _, fun _ => rfl⟩
theorem loadSumTimeout : Statement .loadSumTimeout := ⟨wellFormed_iff _, fun _ => rfl⟩
theorem loadDataByte (b : Byte) (e : Bool) : Statement (.loadDataByte b e) := ⟨wellFormed_iff _, fun _ => rfl⟩
theorem loadDataChecksum (b : Byte) (e : Bool) : Statement (.loadDataChecksum b e) := ⟨wellFormed_iff _, fun _ => rfl⟩
theorem loadDataTimeout : Statement .loadDataTimeout := ⟨wellFormed_iff _, fun _ => rfl⟩
theorem commit (cs : List Byte) : Statement (.commit cs) := ⟨wellFormed_iff _, nofun⟩
theorem test (cs : List Byte) : Statement (.test cs) := ⟨wellFormed_iff _, nofun⟩
theorem endtest (cs : List Byte) : Statement (.endtest cs) := ⟨wellFormed_iff _, nofun⟩
theorem stop (cs : List Byte) : Statement (.stop cs) := ⟨wellFormed_iff _, nofun⟩
theorem warm (cs : List Byte) : Statement (.warm cs) := ⟨wellFormed_iff _, nofun⟩
theorem ack (cs : List Byte) : Statement (.ack cs) := ⟨wellFormed_iff _, nofun⟩
theorem examine (cs : List Byte) : Statement (.examine cs) := ⟨wellFormed_iff _, nofun⟩
theorem examineNext (cs : List Byte) : Statement (.examineNext cs) := ⟨wellFormed_iff _, nofun⟩
theorem examineAgain (cs : List Byte) : Statement (.examineAgain cs) := ⟨wellFormed_iff _, nofun⟩
theorem characterReceived (b : Byte) (e : Bool) : Statement (.characterReceived b e) := ⟨wellFormed_iff _, fun _ => rfl⟩
theorem promptLfSent : Statement .promptLfSent := ⟨wellFormed_iff _, fun _ => rfl⟩

end Sys2Proof.Laws.LineForm
end

