-- ==== Sys2Proof/Tests/Slice0.lean ====
section
/-! SUPPORT. Tests: well-formedness, cases worked out in the spec, and for each statement with hypotheses a
witness that meets them. -/

namespace Sys2Proof.Tests

open Sys2Proof.Machine

-- The frames' and blocks' CRCs are deep terms.
set_option maxRecDepth 1000000
set_option Elab.async false

/-! ## Small states -/

/-- A block of these field bytes. -/
def blockOf (fields : List Nat) : List Byte := fields.map toByte

/-- A block like that of 10_modes_start_up_and_configuration.md 10.6: station 7 a FEEDER of zones 1 and 2,
50 Hz, mask of stations 2 and 7, M = 4, Tlink 3,000; `sync` is byte 3 and `crc` bytes 56 and 57. -/
def blockWith (sync : Nat) (crc : List Nat) : List Byte :=
  blockOf ([1, 1, 50, sync, 0x42, 0, 0, 2, 0, 2, 40, 56, 40, 2, 0, 16, 240, 0, 1, 1, 2, 6, 0, 64, 0, 64, 0, 64, 232, 3,
    208, 7, 96, 9, 24, 0, 120, 0, 0, 2, 240, 0, 1, 10, 184, 11, 0xB8, 0x88, 0x01, 0x0C, 0xCD, 0x04, 0, 1, 4, 8] ++ crc)

/-- The block in sync mode PEER. -/
def testBlock : List Byte := blockWith 0 [218, 231]

/-- The block in sync mode PPS. -/
def ppsBlock : List Byte := blockWith 1 [38, 104]

/-- Station 7 in CONFIG with a block stored and both link-up lines high. -/
def readyWith (store : StoreState) (block : List Byte) : State :=
  { State.reset with
    pins := { Pins.initial with porstLow := false, lup := ⟨true, true⟩ }
    link := Link.initial ⟨true, true⟩ true
    ctl := { Ctl.cold 7 true with mode := .config, step := none, store := store, block := some block } }

/-- Station 7 in CONFIG with the block LOADED. -/
def ready : State := readyWith .loaded testBlock

/-- Station 7 just entered RUN. -/
def running : State := ready.enterRun

/-- Station 7 just entered RUN in sync mode PPS. -/
def runningPps : State := (readyWith .committed ppsBlock).enterRun

/-- Station 7 just entered TEST. -/
def testing : State := ready.enterTest

/-- Station 7 in a self-test step. -/
def inStep (n : Nat) : State := { ready with ctl := { ready.ctl with mode := .selftest, step := some n } }

/-- The next state of a command meets a condition. -/
def ok (i : Instr) (s : State) (p : State → Bool) : Bool :=
  match exec i s with
  | .next t => p t
  | .fault _ => false
  | .refused _ => false

/-- Characters of a line. -/
def chars (s : String) : List Byte := s.toList.map fun c => toByte c.toNat

/-- A frame of the station's scheme with this payload, from station `num`. -/
def frameOf (s : State) (num : Nat) (payload : List Byte) : List Byte :=
  wireFrame (headerOf s.groupAddress num s.linkType) payload

/-- The payload of a QUERY of station `num` with this signature. -/
def queryOf (num sig : Nat) : List Byte := [toByte 2, toByte num] ++ le16 5 ++ [toByte 4, 0#8] ++ le16 sig

/-- A contribution with an L1 current. -/
def sampleOf (l1 : Int) (valid : Bool) (path : Option Path) : Contribution :=
  ⟨⟨l1, 0, 0⟩, .const false, valid, .lockedPeer, ⟨⟨.feeder, some 0, none⟩, .const .closed, none, .none⟩, path, some 0#32⟩

/-- An open slot of good parity. -/
def goodSlot (b : SlotBody) : OpenSlot := ⟨b, false⟩

/-- An open set with every slot EMPTY. -/
def emptySet (k : Nat) : OpenSet := ⟨k, .const OpenSlot.fresh⟩

/-- Station 2. -/
def two : Station := 1

/-- `n` ticks can pass before anything else: `State.Undisturbed` as a test. -/
def quiet (s : State) (n : Nat) : Bool :=
  s.clock.stepDue.isNone && !s.headDue && s.passes n
    && Timed.all.all fun e => (s.ticksTo e).all fun m => decide (n ≤ m)

theorem undisturbed_of_quiet {s : State} {n : Nat} (h : quiet s n = true) : s.Undisturbed n := by
  simp only [quiet, Bool.and_eq_true, Bool.not_eq_true', Option.isNone_iff_eq_none, List.all_eq_true] at h
  obtain ⟨⟨⟨hs, hd⟩, hp⟩, ht⟩ := h
  refine ⟨hs, hd, hp, fun e m hm => ?_⟩
  have := ht e (by cases e <;> decide)
  simpa [hm] using this

/-! ## Well-formedness: each check refuses an ill-formed command (R194) -/

theorem test_line_with_cr_refused : (Instr.commit [0x43#8, 0x0D#8]).wellFormed = false := by decide

theorem test_received_cr_refused : (Instr.characterReceived 0x0D#8 false).wellFormed = false := by decide

theorem test_line_without_cr_accepted : (Instr.load [0x4C#8]).wellFormed = true := by decide

/-! ## No row has bits -/

theorem test_decode_none : decodeTableWord 0 0 = none := by decide

theorem test_fetch_unchanged : State.reset.withFetchWord 8 1 = State.reset := by decide +kernel

/-! ## Cases worked out in the spec -/

/-- 01, worked scaling cases: an exact quotient of 16,800.29. -/
theorem test_scale_rounds_down : scaleCode 12000 22938 = (16800, false) := by decide

/-- 01, worked scaling cases: the half rounds away from zero. -/
theorem test_scale_negative_half : scaleCode (-5) 8192 = (-3, false) := by decide

/-- 01, worked scaling cases: a result of 32,768 is clamped. -/
theorem test_scale_clamps : scaleCode 32766 16385 = (32767, true) := by decide

/-- 01, worked scaling cases: an over-range code. -/
theorem test_scale_over_range : scaleCode (-32768) 16384 = (-32767, true) := by decide

/-- 01, worked sequence: at instant 127 the travel count reaches 24 and the breaker is reported INVALID. -/
theorem test_travel_expires :
    (Debounce.step ⟨some .moving, 4, .moving, some 23, false⟩ 4 24 .moving).reported = .invalid := by decide

/-- 01, worked sequence: at instant 121 the stability count of OPEN reaches 4. -/
theorem test_debounce_opens :
    Debounce.step ⟨some .opened, 3, .moving, some 17, false⟩ 4 24 .opened = ⟨some .opened, 4, .opened, none, false⟩ := by
  decide

/-- 02, worked drift measurement: trim +51. -/
theorem test_drift_trim : (Clock.cold.publish 96001920 4).trim = 51 := by decide +kernel

/-- 02, worked drift measurement: 96,030,000 is rejected. -/
theorem test_drift_rejected : (Clock.cold.publish 96030000 4).driftRejects = 1 := by decide +kernel

/-- 02, R27: a batch of sum +1,150 gives a slew of 24. -/
theorem test_batch_slew :
    ((Clock.batch { Clock.cold with batchSum := 1110, batchCount := 23 } 40).slew) = 24 := by decide +kernel

/-- 02, worked sequence: base 4,997,000 of index 31,207 with trim +51 puts the next instant 7,000 ticks
after tick 5,000,000, numbered 31,208. -/
theorem test_step_interval :
    ((Clock.step { Clock.cold with tick := 5000000#32, trim := 51 } ⟨31207, 4997000#32⟩).remaining) = 7000 := by
  decide +kernel

theorem test_step_index :
    nextIndex (Clock.step { Clock.cold with tick := 5000000#32, trim := 51 } ⟨31207, 4997000#32⟩).index = 31208 := by
  decide +kernel

/-- 03, worked sequence: a charge of 48 at count 220 makes the path FAILED at 255. -/
theorem test_path_fails :
    (PathCtl.charge 48 { PathCtl.initial true true with state := .degraded, health := 220 }).state = .failed := by decide

/-- 03, worked sequence: the arrival that brings the count to 0 makes the path UP. -/
theorem test_path_recovers :
    (PathCtl.credit { PathCtl.initial true true with state := .failed, health := 1 }).state = .up := by decide

/-- 04, worked sequence: closure 2,024 is the 24th without a frame. -/
theorem test_peer_silent :
    (Entry.closure { Entry.initial with state := .live, missed := 23 } 0#16).state = .silent := by decide

/-- 06, R103: feeders closed to 1 and 3, and to 3 and 2. -/
theorem test_partition_joins :
    joinZones (joinZones (.ofFn id) 0 2) 2 1 = (⟨[0, 0, 0, 3], rfl⟩ : Tab 4 Zone) := by decide

/-- 07, 7.9.1: the healthy set of feeders 2, 5 and 7 and tie 12. -/
def healthySet : ClosedSet :=
  ⟨0, .ofFn fun n =>
    if n = 1 then ⟨some .real, some (sampleOf 3100 true none), false⟩
    else if n = 4 then ⟨some .real, some (sampleOf (-1250) true none), false⟩
    else if n = 6 then ⟨some .real, some (sampleOf (-600) true none), false⟩
    else ⟨some .real, some (sampleOf 1200 true none), false⟩, false⟩

theorem test_healthy_term :
    (healthySet.term [⟨1, true⟩, ⟨4, true⟩, ⟨6, true⟩, ⟨11, false⟩]).d.l1 = 50
      ∧ (healthySet.term [⟨1, true⟩, ⟨4, true⟩, ⟨6, true⟩, ⟨11, false⟩]).s.l1 = 6150 := by decide +kernel

/-- 07, 7.9.2: closure f8 does not meet the condition and f9 does. -/
theorem test_condition_f8_f9 :
    conditionPhase 512 24 40 154400 252000 = false ∧ conditionPhase 512 24 40 173550 265050 = true := by decide

/-- 07, 7.9.3: the second term of evidence sets the latch with hold counter 240. -/
theorem test_latch_sets :
    Latch.advance ⟨1, false, 0⟩ false 4096 240 (some ⟨0, false, .const 300, .const 20000, false⟩) = ⟨2, true, 240⟩ := by
  decide

/-- 08, 8.9: at the declaration the own attachment becomes the request. -/
theorem test_breaker_failure :
    (State.declareBf { running with
      trip := { running.trip with bf := .timing, bfTimer := 1, sumsKnown := true, ownSums := ⟨201600, 0, 0⟩ }
      replica := { running.replica with ownAttachment := zoneSetOf 3 } }).bfRequest = some (zoneSetOf 3) := by
  decide +kernel

/-- 09, table of masks: mask 5 gives Σ = -25,892. -/
theorem test_mask_sums : checkerSums 5 = ⟨-25892, 25892, 25892⟩ := by decide

/-- 10, R190 with the CRC of "123456789", 29B1h, the check value of this CRC. -/
theorem test_crc16 : crc16 (chars "123456789") = 0x29B1#16 := by decide +kernel

/-- 10, R188: k = 44 with kL = 40 fails at offset 11. -/
theorem test_field_kL :
    firstBad (blockOf ([1, 1, 50, 0, 0x42, 0, 0, 2, 0, 2, 44, 40] ++ List.replicate 46 0)) (stationOf 7) = some 11 := by
  decide +kernel

/-- 10, R188: a good block passes. -/
theorem test_block_accepted : firstBad testBlock (stationOf 7) = none := by decide +kernel

/-- 11, worked sequence: "load 58" takes the checksum C6h. -/
theorem test_load_checksum : sum256 (chars "load 58" ++ [0x0D#8, 0xC6#8]) = 0 := by decide +kernel

/-- 11, worked sequence: E GROUP 5 is ?08 ILL IDX, and the next of ROSTER 24 likewise. -/
theorem test_ill_idx :
    ask none [chars "GROUP", chars "5"] = .error .illIdx ∧ ask (some (.roster 23)) [] = .error .illIdx := by
  decide +kernel

/-! ## Witnesses: concrete states and operands that meet the hypotheses of the statements -/

theorem witness_StepRunsFrontCommand :
    ({ running with pending := [.warmReset] } : State).pending = .warmReset :: [] := rfl

/-- A state HALTED with a code. -/
def haltedBy (c : HaltCode) : State := ready.halt c none

theorem witness_CommandsComplete :
    ok .syncLoss running (fun t => t.ctl.mode == .run && !t.resetHeld) = true
      ∧ ok .syncLoss ready (fun t => t.ctl.mode == .config && !t.resetHeld) = true
      ∧ ok .syncLoss testing (fun t => t.ctl.mode == .test && !t.resetHeld) = true
      ∧ ok .syncLoss (inStep 4) (fun t => t.ctl.mode == .selftest && t.ctl.step == some 4 && !t.resetHeld) = true
      ∧ ok .syncLoss (haltedBy .stop) (fun t => t.sup.halt.map HaltRecord.code == some .stop) = true
      ∧ ok .syncLoss (haltedBy .doubleFault) (fun t => t.sup.halt.map HaltRecord.code == some .doubleFault) = true
      ∧ ok .syncLoss (haltedBy .configCorrupt) (fun t => t.sup.halt.map HaltRecord.code == some .configCorrupt) = true
      ∧ ok .syncLoss (haltedBy (.selftest 4)) (fun t => t.sup.halt.map HaltRecord.code == some (.selftest 4)) = true
      ∧ ok .syncLoss State.reset State.resetHeld = true := by decide +kernel

theorem witness_ColdReset : State.reset.pins.porstLow = true := rfl

/-- RUN with WRST low. -/
def warmHeld : State := { running with pins := { running.pins with wrstLow := true } }

theorem witness_WarmReset :
    running.pins.porstLow = false ∧ warmHeld.pins.porstLow = false ∧ warmHeld.pins.wrstLow = true
      ∧ State.reset.pins.porstLow = true
      ∧ ({ State.reset with pins := { State.reset.pins with wrstLow := true } } : State).pins.wrstLow = true := by
  decide +kernel

/-- A datapath that is wrong for mask 3 in L2. -/
def upset : Health := ⟨[⟨3, .l2, ⟨0, 0, 0⟩⟩], false⟩

/-- Step 7 of a warm start with a block whose CRC does not agree. -/
def warmBad : State :=
  { inStep 7 with ctl := { (inStep 7).ctl with start := .warm, block := some (blockWith 1 [218, 231]) } }

theorem witness_StorageTest :
    (inStep 7).atStep 7 = true ∧ (inStep 7).health.selftestPasses = true
      ∧ ({ inStep 7 with health := upset } : State).atStep 7 = true ∧ upset.selftestPasses = false
      ∧ warmBad.atStep 7 = true ∧ warmBad.health.selftestPasses = true ∧ warmBad.ctl.start = .warm
      ∧ warmBad.ctl.store ≠ .empty ∧ blockCrcGood warmBad.blockBytes = false ∧ (inStep 7).ctl.start ≠ .warm := by
  decide +kernel

/-- Step 4 with a conversion state and a number of attempts. -/
def attempt (c : ConvState) (n : Nat) : State :=
  { inStep 4 with bay := { (inStep 4).bay with conv := c }, ctl := { (inStep 4).ctl with attempts := n } }

theorem witness_SelftestConversion :
    (attempt .idle 2).atStep 4 = true ∧ (attempt .idle 2).bay.conv = .idle ∧ (attempt .idle 2).ctl.attempts < 3
      ∧ (attempt .waitDrdy 2).atStep 4 = true ∧ (attempt .waitDrdy 3).atStep 4 = true
      ∧ (attempt .reading 2).bay.conv = .reading ∧ (attempt .reading 2).ctl.store ≠ .empty
      ∧ (attempt .reading 2).refLo < (attempt .reading 2).refHi
      ∧ (adcCodes 999#64).2 < (attempt .reading 2).refLo ∧ (attempt .reading 2).refHi < (adcCodes 2001#64).2
      ∧ (attempt .reading 2).refLo = (adcCodes 1000#64).2 ∧ (attempt .reading 2).refHi = (adcCodes 2000#64).2 := by
  decide +kernel

theorem witness_SelftestConversion_lines :
    (attempt .reading 2).pins.lup.a = true
      ∧ ({ attempt .reading 2 with pins := { ready.pins with lup := ⟨false, true⟩ } } : State).pins.lup.b = true
      ∧ ({ attempt .reading 2 with pins := { ready.pins with lup := ⟨false, false⟩ } } : State).atStep 4 = true
      ∧ ({ attempt .reading 2 with ctl := { (attempt .reading 2).ctl with store := .empty } } : State).atStep 4 = true := by
  decide +kernel

/-- Step 3 with the frame of a path out for 24,000 ticks, the last of 1 ms. -/
def looping (p : Path) : State :=
  { inStep 3 with ctl := { (inStep 3).ctl with
      loopPath := some p, loopFrame := some (inStep 3).loopFrame, loopTicks := 24000 } }

theorem witness_Loopback :
    (looping .a).atStep 3 = true ∧ (looping .a).ctl.loopPath = some .a ∧ (looping .b).ctl.loopPath = some .b
      ∧ (looping .a).blockBytes.length = 58 ∧ (looping .a).ctl.loopTicks ≤ 24000 ∧ (looping .a).ctl.pben = true ∧ (looping .a).pins.lup.b = true
      ∧ loopGood (looping .a).loopFrame false = true ∧ loopGood (looping .a).loopFrame true = false
      ∧ ((looping .a).link.paths.get .a).state ≠ .down := by decide +kernel

theorem witness_MclkCheck :
    (inStep 2).atStep 2 = true ∧ (inStep 2).ctl.store ≠ .committed
      ∧ ({ inStep 2 with ctl := { (inStep 2).ctl with store := .committed } } : State).atStep 2 = true
      ∧ (23520 ≤ 23520 ∧ 23520 ≤ 24480) ∧ (23520 ≤ 24480 ∧ 24480 ≤ 24480) ∧ 23519 < 23520 ∧ 24480 < 24481 := by
  decide +kernel

theorem witness_ScalingAndClamp :
    2 * (16384 * roundScale 8192 - 8192).natAbs = 16384 ∧ 32767 < roundScale (32766 * (16385 : Nat))
      ∧ roundScale (-32766 * (16385 : Nat)) < -32767 ∧ roundScale (32766 * (16384 : Nat)) = 32766 := by decide

/-- RUN with the contacts of every device alike. -/
def contactsAt (o c : Bool) : State := { running with pins := { running.pins with contacts := .const ⟨o, c⟩ } }

theorem witness_RawStates :
    ((contactsAt true false).pins.contacts.get .x).openOn = true
      ∧ ((contactsAt true false).pins.contacts.get .x).closedOn = false
      ∧ ((contactsAt false true).pins.contacts.get .y).closedOn = true
      ∧ ((contactsAt false false).pins.contacts.get .y).openOn = false
      ∧ ((contactsAt true true).pins.contacts.get .breaker).openOn = true
      ∧ ((contactsAt true true).pins.contacts.get .breaker).closedOn = true := by decide

theorem witness_DebounceFollowsStableStates :
    1 ≤ 4 ∧ Debounce.initial.stab ≤ 4 ∧ Debounce.initial.cand ≠ some .opened ∧ Debounce.initial.deb ≠ .opened
      ∧ (Debounce.initial.step 4 24 .opened).cand = some .opened := by decide

theorem witness_AdcLostRuns :
    Bay.initial.adcLost = false ∧ Bay.initial.failRun = 0
      ∧ ({ Bay.initial with adcLost := true } : Bay).adcLost = true ∧ Bay.initial.goodRun = 0 := by decide

/-- RUN in HOLDOVER with this elapsed count and a slew of which the period carries a step. -/
def holding (elapsed : Nat) : State :=
  { running with clock := { running.clock with
      sync := .holdover, holdoverElapsed := elapsed, slew := -3, slewLive := true } }

theorem witness_SampleInstant :
    running.working = true ∧ testing.working = true ∧ (holding 23999).working = true
      ∧ running.ticksTo .adc ≠ some running.clock.remaining ∧ testing.ticksTo .adc ≠ some testing.clock.remaining
      ∧ (holding 23999).ticksTo .adc ≠ some (holding 23999).clock.remaining
      ∧ running.clock.sync = .unlocked ∧ (holding 23999).ctl.mode = .run ∧ (holding 23999).clock.slewLive = true
      ∧ (holding 23999).set8 43 * 2400 ≤ 23999 + 1 ∧ ¬(holding 23998).set8 43 * 2400 ≤ 23998 + 1
      ∧ ok (.sampleInstant (.const ⟨true, false⟩) true) running (fun t => 0 ≤ running.clock.frac + t.clock.period)
        = true := by decide +kernel

theorem witness_SampleInstant_undisturbed :
    running.Undisturbed running.clock.remaining ∧ testing.Undisturbed testing.clock.remaining
      ∧ (holding 23999).Undisturbed (holding 23999).clock.remaining :=
  ⟨undisturbed_of_quiet (by decide +kernel), undisturbed_of_quiet (by decide +kernel),
    undisturbed_of_quiet (by decide +kernel)⟩

/-- The breaker is MOVING with its travel count at the travel time. -/
def travelling : State :=
  { running with bay := { running.bay with dev :=
      { running.bay.dev with breaker := ⟨some .moving, 8, .moving, some 24, false⟩ } } }

theorem witness_TravelExpiry :
    travelling.working = true ∧ (travelling.bay.dev.get .breaker).deb = .moving
      ∧ (travelling.bay.dev.get .breaker).expired = false
      ∧ (travelling.bay.dev.get .breaker).travel = some 24 ∧ travelling.travelTime .breaker ≤ 24 := by decide +kernel

/-- A device that becomes MOVING, stays so to its travel time and beyond, and leaves; BLOCK IN seen high for the
debounce count. -/
theorem witness_TravelExpiry_instants :
    let moved := Debounce.step ⟨some .moving, 3, .opened, none, false⟩ 4 24 .moving
    moved.deb = .moving ∧ moved.travel = some 0 ∧ moved.expired = false
      ∧ (Debounce.step ⟨some .moving, 4, .moving, some 22, false⟩ 4 24 .moving).expired = false
      ∧ (Debounce.step ⟨some .moving, 4, .moving, some 23, false⟩ 4 24 .moving).expired = true
      ∧ (Debounce.step ⟨some .moving, 4, .moving, some 24, true⟩ 4 24 .opened).travel = some 24
      ∧ (Debounce.step ⟨some .opened, 3, .moving, some 24, true⟩ 4 24 .opened).deb = .opened
      ∧ (BlockDebounce.step ⟨some true, 3, false⟩ 4 true).active = true
      ∧ (BlockDebounce.step ⟨some false, 1, false⟩ 1 true).active = true := by decide

/-- RUN with sets 0 and 1 open and a conversion of index 1 in a state. -/
def converting (c : ConvState) : State :=
  { running with
    bay := { running.bay with conv := c, convIndex := 1, wait := 4799 }
    asm := { running.asm with openSets := [emptySet 0, emptySet 1] }
    clock := { running.clock with index := 1, remaining := 256 } }

theorem witness_DrdyRise :
    (converting .waitDrdy).converts = true ∧ (converting .waitDrdy).clock.stepDue = none
      ∧ (converting .waitDrdy).bay.conv = .waitDrdy ∧ (converting .waitDrdy).bay.wait < 4800 := by decide +kernel

/-- The set of the conversion is the oldest open one, and the own slot holds `b`. -/
def convertingOldest (c : ConvState) (b : SlotBody) : State :=
  { converting c with asm := { running.asm with openSets := [⟨1, (Tab.const OpenSlot.fresh).set 6 (goodSlot b)⟩] } }

theorem witness_ConversionEnds :
    (converting .waitDrdy).working = true ∧ (∀ o ∈ (converting .waitDrdy).asm.openSets, o.sound = true)
      ∧ (∀ o ∈ (converting .waitDrdy).asm.openSets.head?, o.index ≠ (converting .waitDrdy).bay.convIndex)
      ∧ (converting .reading).bay.conv = .reading
      ∧ (converting .reading).ctl.mode = .run ∧ ((converting .reading).link.paths.get .a).state ≠ .down
      ∧ ((converting .reading).link.paths.get .a).sending = none ∧ (converting .reading).own = some 6
      ∧ ((converting .reading).findOpen 1).map (fun o => (o.slots.get 6).body) = some .empty
      ∧ (convertingOldest .reading .damaged).working = true
      ∧ (∀ o ∈ (convertingOldest .reading .damaged).asm.openSets, o.sound = true)
      ∧ (∀ o ∈ (convertingOldest .reading .damaged).asm.openSets.head?,
          o.index = (convertingOldest .reading .damaged).bay.convIndex)
      ∧ ((convertingOldest .reading .damaged).findOpen 1).map (fun o => (o.slots.get 6).body) = some .damaged := by
  decide +kernel

theorem witness_ConversionEnds_undisturbed :
    (converting .waitDrdy).Undisturbed (4800 - (converting .waitDrdy).bay.wait)
      ∧ (converting .reading).Undisturbed (256 - (converting .reading).bay.readTicks)
      ∧ (convertingOldest .waitDrdy .empty).Undisturbed (4800 - (convertingOldest .waitDrdy .empty).bay.wait)
      ∧ (convertingOldest .reading .empty).Undisturbed (256 - (convertingOldest .reading .empty).bay.readTicks) :=
  ⟨undisturbed_of_quiet (by decide +kernel), undisturbed_of_quiet (by decide +kernel),
    undisturbed_of_quiet (by decide +kernel), undisturbed_of_quiet (by decide +kernel)⟩

/-- The ADC timeout of a conversion falls on the tick of the next instant; where it `halts` the station, the own slot
has a parity error and an unacknowledged fault is in the cell. -/
def timeoutAtInstant (halts : Bool) : State :=
  let s := { converting .waitDrdy with clock := { (converting .waitDrdy).clock with remaining := 1 } }
  if halts then
    { s with
      asm := { running.asm with openSets := [⟨1, .const ⟨.empty, true⟩⟩] }
      sup := { running.sup with fault := some ⟨recordFault, 0, .run, 0, false⟩ } }
  else s

/-- The instant follows the timeout as it follows ADC_TIMEOUT, and does not come in HALTED. -/
theorem witness_SampleInstant_timeout :
    let s := timeoutAtInstant
    let instant := Instr.sampleInstant (.const ⟨true, false⟩) true
    (s false).working = true ∧ (s false).ticksTo .adc = some (s false).clock.remaining
      ∧ (s true).working = true ∧ (s true).ticksTo .adc = some (s true).clock.remaining
      ∧ ok .adcTimeout (s false) (fun u => u.working && u.clock.stepDue.isNone && !u.headDue
          && ok instant (s false) (fun t => ok instant u (fun v => t == v) && t.clock.index == 2 && t.bay.failRun == 1))
        = true
      ∧ ok .adcTimeout (s true) (fun u => !u.working && ok instant (s true) (fun t => t == u)) = true := by
  decide +kernel

theorem witness_SampleInstant_timeout_undisturbed :
    (timeoutAtInstant false).Undisturbed (timeoutAtInstant false).clock.remaining
      ∧ (timeoutAtInstant true).Undisturbed (timeoutAtInstant true).clock.remaining :=
  ⟨undisturbed_of_quiet (by decide +kernel), undisturbed_of_quiet (by decide +kernel)⟩

/-- RUN in mode PPS at this tick with the last edge at tick 0. -/
def edgeAt (t : Tick) : State :=
  { runningPps with clock := { runningPps.clock with tick := t, lastEdge := some 0#32 } }

theorem witness_PpsEdge :
    runningPps.inRun = true ∧ runningPps.syncPps = true ∧ runningPps.clock.stepDue = none
      ∧ runningPps.clock.lastEdge = none ∧ (edgeAt 23997600#32).inRun = true
      ∧ ((edgeAt 23997600#32).clock.tick - 0#32).toNat = 23997600
      ∧ ((edgeAt 23997599#32).clock.tick - 0#32).toNat < 23997600
      ∧ 24002400 < ((edgeAt 24002401#32).clock.tick - 0#32).toNat := by decide +kernel

/-- PPS qualified, at tick 24,000,000, in a sync state, with the step pending or done, own instant 0 at tick 0,
and a used frame of index 700 of authority 2 that came `ago` ticks before. -/
def edgeIn (sync : SyncState) (pending : Bool) (ago : Nat) : State :=
  let s := edgeAt 24000000#32
  { s with clock := { s.clock with
      sync := sync, qualified := true, stepPending := pending, instants := [⟨0, 0#32⟩], authority := .peer two
      lastUsed := some ⟨700, BitVec.ofNat 32 (24000000 - ago)⟩ } }

theorem witness_PpsEdge_qualified :
    (edgeIn .acquiring true 12000000).inRun = true ∧ (edgeIn .acquiring true 12000000).syncPps = true
      ∧ (edgeIn .acquiring true 12000000).clock.stepDue = none
      ∧ (24000000#32 - BitVec.ofNat 32 (24000000 - 12000000)).toNat ≤ 12000000
      ∧ ¬(24000000#32 - BitVec.ofNat 32 (24000000 - 12000001)).toNat ≤ 12000000
      ∧ (edgeIn .acquiring false 0).clock.ppsError = some 0 ∧ (edgeIn .lockedPps false 0).clock.ppsError = some 0
      ∧ ok .ppsEdge (edgeIn .acquiring true 12000000) (fun t => t.clock.qualified) = true
      ∧ ok .ppsEdge (edgeAt 23997599#32) (fun t => !t.clock.qualified) = true := by decide +kernel

/-- RUN in mode PPS in a sync state, with the edge and the mark due within the period in progress. -/
def overdueAt (sync : SyncState) : State :=
  { runningPps with clock := { runningPps.clock with
      sync := sync, lastEdge := some 0#32, sinceEdge := 23992400, lastMark := some ⟨0#32, none⟩, sinceMark := 23992400 } }

theorem witness_MissedEdgesAndMarks :
    (overdueAt .lockedPps).inRun = true ∧ (overdueAt .lockedPps).syncPps = true
      ∧ (overdueAt .lockedPps).clock.lastEdge.isSome = true ∧ (overdueAt .acquiring).clock.sync = .acquiring
      ∧ (overdueAt .unlocked).clock.sync = .unlocked ∧ (overdueAt .unlocked).clock.lastMark.isSome = true := by
  decide +kernel

theorem witness_MissedEdgesAndMarks_undisturbed :
    (overdueAt .lockedPps).Undisturbed (24002400 - (overdueAt .lockedPps).clock.sinceEdge)
      ∧ (overdueAt .acquiring).Undisturbed (24002400 - (overdueAt .acquiring).clock.sinceEdge)
      ∧ (overdueAt .unlocked).Undisturbed (24002400 - (overdueAt .unlocked).clock.sinceMark) :=
  ⟨undisturbed_of_quiet (by decide +kernel), undisturbed_of_quiet (by decide +kernel),
    undisturbed_of_quiet (by decide +kernel)⟩

/-- A step that is due to the present tick, with trim +512. -/
def stepping : State :=
  { running with clock := { running.clock with
      sync := .acquiring, trim := 512, stepDue := some ⟨47999, running.clock.tick⟩ } }

theorem witness_AcquisitionStep :
    stepping.inRun = true ∧ stepping.clock.sync = .acquiring
      ∧ stepping.clock.stepDue = some ⟨47999, stepping.clock.tick⟩
      ∧ 0 ≤ tickDiff stepping.clock.tick stepping.clock.tick ∧ -512 ≤ stepping.clock.trim
      ∧ stepping.clock.trim ≤ 512 ∧ (47999 : Nat) < 48000 := by decide +kernel

theorem witness_ClockLimits :
    ({ running with clock := { running.clock with sync := .holdover, holdoverElapsed := 24000 } } : State).inRun = true
      ∧ running.set8 43 * 2400 ≤ 24000
      ∧ ({ running with clock := { running.clock with unlockedRun := 2401 } } : State).inRun = true
      ∧ running.clock.sync = .unlocked ∧ 2400 < 2401 := by decide +kernel

/-- RUN in mode PEER with station 2 LIVE in a locked state, the index authority named and this sync state. -/
def following (sync : SyncState) (a : Authority) (misfit : Nat) : State :=
  let s := running.onEntry two fun e => { e with state := .live }
  { s with clock := { s.clock with
      sync := sync, authority := a, misfit := misfit, lastAuth := some 4, codes := (Tab.const .unlocked).set two .lockedPeer
      instants := [⟨0, 0#32⟩] } }

theorem witness_ClockLimits_closure :
    (following .lockedPeer (.peer two) 23).ctl.mode = .run ∧ (following .lockedPeer (.peer two) 23).syncPps = false
      ∧ (following .lockedPeer (.peer two) 23).live two = true ∧ (following .lockedPeer (.peer two) 23).isOwn two = false
      ∧ two.num < (following .lockedPeer (.peer two) 23).ctl.strap
      ∧ ((following .lockedPeer (.peer two) 23).clockClosure false true).clock.sync = .acquiring
      ∧ ((following .lockedPeer (.peer two) 22).clockClosure false true).clock.misfit = 23
      ∧ ((following .lockedSelf .self 0).clockClosure false false).clock.authority = .peer two
      ∧ (running.clockClosure false false).clock.authority = .self
      ∧ (running.clockClosure false false).clock.sync = .acquiring
      ∧ (runningPps.clockClosure false false).clock.authority = .none := by decide +kernel

theorem witness_DriftTrim :
    (((24004800 : Nat) : Int) - (1 : Nat) * 24000000).natAbs ≤ 1 * 4800
      ∧ 1 * 4800 < (((24004801 : Nat) : Int) - (1 : Nat) * 24000000).natAbs := by decide

/-- A mark starts, the M-th ends and restarts, and one after a gap starts afresh; at M = 16 the count 384,000,075
gives 2,560,000.5, which is rounded up. -/
theorem witness_DriftTrim_marks :
    let c : Clock := { Clock.cold with sync := .acquiring, tick := 24000000#32 }
    (Clock.cold.publish 384000075 16).trim = 1 ∧ (c.driftMark 1 0#32).drift = .counting 0#32 0
      ∧ (({ c with drift := .counting 0#32 0 } : Clock).driftMark 1 c.tick).lastDrift = some 24000000
      ∧ (({ c with drift := .counting 0#32 0 } : Clock).driftMark 2 c.tick).drift = .counting 0#32 1
      ∧ (({ c with drift := .counting 0#32 0, lastMark := some ⟨0#32, some 45600⟩ } : Clock).secondMark 1 (some 0)).lastDrift
          = some 24000000
      ∧ (({ c with drift := .counting 0#32 0, lastMark := some ⟨0#32, some 45600⟩ } : Clock).secondMark 1 (some 2400)).drift
          = .counting c.tick 0 := by decide +kernel

/-- A QUERY of a station with a signature. -/
def query (num sig : Nat) : List Byte := frameOf running num (queryOf num sig)

/-- The own signature. -/
def sig : Nat := running.ownSig.toNat

theorem witness_ArrivalDropped :
    running.clock.stepDue = none ∧ running.inRun = true ∧ (running.link.paths.get .a).state ≠ .down
      ∧ frameGood [] false = false
      ∧ frameGood (wireFrame (headerOf [0#8, 0#8, 0#8, 0#8, 0#8, 0#8] 2 0x88B8) []) false = true
      ∧ running.schemeFrame (wireFrame (headerOf [0#8, 0#8, 0#8, 0#8, 0#8, 0#8] 2 0x88B8) []) = false
      ∧ frameGood (frameOf running 2 []) false = true ∧ running.schemeFrame (frameOf running 2 []) = true
      ∧ parseFrame (frameOf running 2 []) = none
      ∧ frameGood (query 3 sig) false = true ∧ running.schemeFrame (query 3 sig) = true
      ∧ parseFrame (query 3 sig) = some ⟨2, 5, .lockedSelf, running.ownSig, .query⟩
      ∧ running.inMask 2 = false := by decide +kernel

/-- The checks of R47 at the ends of their ranges. -/
theorem witness_ArrivalDropped_payload :
    let read := fun p => (parseFrame (frameOf running 2 p)).isSome
    let tie := fun (x y : Nat) => [3#8, 24#8] ++ le16 47999 ++ [5#8, 2#8] ++ le16 0 ++ [2#8, toByte x, toByte y]
    read (queryOf 24 sig) = true ∧ read (queryOf 25 sig) = false ∧ read (queryOf 0 sig) = false
      ∧ read ([2#8, 1#8] ++ le16 47999 ++ [5#8, 99#8]) = true ∧ read ([2#8, 1#8] ++ le16 48000 ++ [5#8]) = false
      ∧ read (tie 3 4 ++ [0#8, 0#8, 0#8, 24#8]) = true ∧ read (tie 3 3) = false ∧ read (tie 0 4) = false
      ∧ read (tie 5 4) = false ∧ read (tie 3 4 ++ [0#8, 0#8, 0#8, 25#8]) = false := by decide +kernel

/-- RUN with path A FAILED. -/
def failedA : State := running.onPath .a fun p => { p with state := .failed, health := 255 }

theorem witness_ArrivalAccepted :
    frameGood (query 2 sig) false = true ∧ running.schemeFrame (query 2 sig) = true
      ∧ parseFrame (query 2 sig) = some ⟨two, 5, .lockedSelf, running.ownSig, .query⟩
      ∧ running.inMask two = true ∧ running.isOwn two = false ∧ failedA.inRun = true ∧ failedA.clock.stepDue = none
      ∧ (failedA.link.paths.get .a).state = .failed ∧ failedA.schemeFrame (query 2 sig) = true
      ∧ (running.link.paths.get .a).state ≠ .failed
      ∧ running.evaluatesAfter ⟨two, 5, .lockedSelf, running.ownSig, .query⟩ = false
      ∧ (running.entry two).querySeen = false
      ∧ ok (.arrival .a (query 2 sig) false) running (fun t => t.link.statusPending && (t.entry two).querySeen
          && (t.entry two).lastQuery == some 5 && ok (.arrival .b (query 2 sig) false)
            { t with link := { t.link with statusPending := false } } (fun u => !u.link.statusPending)) = true
      ∧ ok (.arrival .a (query 2 sig) false) (running.onEntry two fun e => { e with querySeen := true, lastQuery := some 4 })
          (fun t => t.link.statusPending) = true := by decide +kernel

theorem witness_ArrivalAccepted_excluded :
    parseFrame (query 2 (sig + 1)) = some ⟨two, 5, .lockedSelf, running.ownSig + 1#16, .query⟩
      ∧ frameGood (query 2 (sig + 1)) false = true ∧ running.schemeFrame (query 2 (sig + 1)) = true := by
  decide +kernel

/-- RUN with sets 4 and 5 open and station 2's slot of set 5 holding `b`. -/
def slotHolds (b : SlotBody) : State :=
  { running with asm := { running.asm with openSets :=
      [emptySet 4, ⟨5, (Tab.const OpenSlot.fresh).set two (goodSlot b)⟩] } }

/-- The SAMPLE payload of station 2 for index 5: FEEDER of zone 1, all CLOSED, currents 100, 0, 0. -/
def samplePayload2 : List Byte :=
  [1#8, 2#8] ++ le16 5 ++ [4#8, 1#8] ++ le16 sig ++ [1#8, 1#8, 1#8, 0#8, 1#8, 1#8, 0#8, 0#8] ++ le16 100 ++ le16 0 ++ le16 0

/-- What that frame says. -/
def sample2 : Frame :=
  ⟨two, 5, .lockedSelf, running.ownSig,
    .sample true (.const false) ⟨100, 0, 0⟩ ⟨⟨.feeder, some 0, none⟩, .const .closed, none, .none⟩⟩

/-- Station 2 is the index authority and its frame of index 5 lies one past the newest open set, in it, and 24,000
steps past the oldest. -/
theorem witness_ArrivalAccepted_placed :
    let s := fun k : Nat => ({ running with
      asm := { running.asm with openSets := [emptySet k, emptySet (k + 1)] }
      clock := { running.clock with authority := .peer two } } : State)
    let frame := frameOf running 2 samplePayload2
    parseFrame frame = some sample2 ∧ (s 3).evaluatesAfter sample2 = false ∧ (s 4).evaluatesAfter sample2 = true
      ∧ ok (.arrival .a frame false) (s 3) (fun t => (t.entry two).early == 1 && t.asm.misfit) = true
      ∧ ok (.arrival .a frame false) (s 6) (fun t => (t.entry two).late == 1 && t.asm.misfit) = true
      ∧ ok (.arrival .a frame false) (s 24005) (fun t => (t.entry two).late == 1 && t.asm.misfit) = true
      ∧ ok (.arrival .a frame false) (s 24006) (fun t => (t.entry two).early == 1 && t.asm.misfit) = true
      ∧ ok (.arrival .a frame false) running (fun t => (t.entry two).late == 0 && !t.asm.misfit) = true := by
  decide +kernel

theorem witness_ClockLimits_used :
    (following .acquiring (.peer two) 0).clock.authority = .peer sample2.sender
      ∧ (following .acquiring (.peer two) 0).clock.lastAuth = some 4 ∧ 1 ≤ ahead sample2.index 4
      ∧ ahead sample2.index 4 < 24000 ∧ ((following .acquiring (.peer two) 0).clock.ownTick sample2.index).isSome = true
      ∧ ((following .acquiring (.peer two) 0).clockTake sample2).clock.lastAuth = some 5
      ∧ ¬(1 ≤ ahead 4 4 ∧ ahead 4 4 < 24000) := by decide +kernel

/-- The set of index 5 is the oldest open one. -/
def oldestHolds (b : SlotBody) : State :=
  { running with asm := { running.asm with openSets := [⟨5, (Tab.const OpenSlot.fresh).set two (goodSlot b)⟩] } }

theorem witness_ArrivalFillsSlot_oldest :
    (oldestHolds .empty).clock.stepDue = none ∧ (oldestHolds .empty).inRun = true
      ∧ (oldestHolds .empty).pathGood .a = true ∧ (oldestHolds .empty).placement 5 = .inSet
      ∧ (oldestHolds .empty).schemeFrame (frameOf running 2 samplePayload2) = true
      ∧ ((oldestHolds .empty).findOpen 5).map (fun o => o.slots.get two) = some (goodSlot .empty)
      ∧ (∀ h ∈ (oldestHolds .empty).asm.openSets.head?, h.index = 5) := by decide +kernel

theorem witness_ArrivalFillsSlot :
    (slotHolds .empty).clock.stepDue = none ∧ (slotHolds .empty).inRun = true ∧ (slotHolds .empty).pathGood .a = true
      ∧ frameGood (frameOf running 2 samplePayload2) false = true
      ∧ (slotHolds .empty).schemeFrame (frameOf running 2 samplePayload2) = true
      ∧ parseFrame (frameOf running 2 samplePayload2) = some sample2
      ∧ (slotHolds .empty).inMask two = true ∧ (slotHolds .empty).isOwn two = false
      ∧ sample2.sig = (slotHolds .empty).ownSig ∧ (slotHolds .empty).placement 5 = .inSet
      ∧ ((slotHolds .empty).findOpen 5).map (fun o => o.slots.get two) = some (goodSlot .empty)
      ∧ (∀ h ∈ (slotHolds .empty).asm.openSets.head?, h.index ≠ 5) := by decide +kernel

theorem witness_ArrivalFillsSlot_other :
    ((slotHolds (.filled (sampleOf 1 true (some .b)) false)).findOpen 5).map (fun o => (o.slots.get two).body)
        = some (.filled (sampleOf 1 true (some .b)) false)
      ∧ ((slotHolds .damaged).findOpen 5).map (fun o => (o.slots.get two).body) = some .damaged := by decide +kernel

theorem witness_OwnNumberHeard :
    frameGood (query 7 sig) false = true ∧ running.schemeFrame (query 7 sig) = true
      ∧ parseFrame (query 7 sig) = some ⟨6, 5, .lockedSelf, running.ownSig, .query⟩
      ∧ running.inMask 6 = true ∧ running.isOwn 6 = true ∧ (failedA.link.paths.get .a).state = .failed
      ∧ (running.link.paths.get .a).state ≠ .failed ∧ running.roster.conflict = false := by decide +kernel

theorem witness_OwnNumberHeard_blocks : running.diff.BlockSafe := by
  unfold Diff.BlockSafe
  decide +kernel

/-- RUN with a frame in transmission on path A and these slots. -/
def transmitting (x y : Option (List Byte)) : State :=
  running.onPath .a fun p => { p with sending := some (.other, [0#8]), sampleSlot := x, otherSlot := y }

theorem witness_PathEvents :
    running.resetHeld = false ∧ running.ctl.mode ≠ .halted ∧ running.enabled .a = true
      ∧ running.pins.lup.get .a = true ∧ (running.setLup .b false).pins.lup.get .b = false
      ∧ (running.setLup .b false).enabled .b = true ∧ (transmitting (some [1#8]) none).inRun = true
      ∧ ((transmitting (some [1#8]) none).link.paths.get .a).sending = some (.other, [0#8])
      ∧ ((transmitting (some [1#8]) none).link.paths.get .a).sampleSlot = some [1#8]
      ∧ ((transmitting none (some [2#8])).link.paths.get .a).otherSlot = some [2#8]
      ∧ ((transmitting none none).link.paths.get .a).otherSlot = none := by decide +kernel

/-- R36, R42: a frame in transmission is cut off with a transmit error by its path's DOWN, a STOP and a reset, and
ends without one. -/
theorem witness_PathEvents_cut :
    let s := transmitting (some [1#8]) none
    ok (.linkUpFall .a) s (fun t => t.out.txError == ⟨true, false⟩) = true
      ∧ ok (.stop (chars "STOP")) s (fun t => t.out.txError == ⟨true, false⟩) = true
      ∧ ok .warmReset s (fun t => t.out.txError == ⟨true, false⟩) = true
      ∧ ok (.transmitEnd .a) s (fun t => t.out.txError == ⟨false, false⟩) = true
      ∧ (s.link.paths.get .b).sending = none ∧ s.out.txError = ⟨false, false⟩ := by decide +kernel

/-- A record at the ends of the current range. -/
def fullRecord : OwnRecord := ⟨47999, ⟨32767, -32767, 0⟩, ⟨true, true, false⟩, true, .const .closed⟩

/-- RUN with a QUERY and a STATUS pending and path B sending. -/
def asked : State :=
  let s := running.onPath .b fun p => { p with sending := some (.other, [0#8]) }
  { s with link := { s.link with queryPending := true, statusPending := true } }

theorem witness_SampleFrameRoundTrip :
    running.own = some 6 ∧ running.blockBytes.length = 58
      ∧ (descOf (byteAt running.blockBytes 18) (byteAt running.blockBytes 19) (byteAt running.blockBytes 20)).isSome = true
      ∧ fullRecord.index < 48000 ∧ (-32767 ≤ fullRecord.cur.l2 ∧ fullRecord.cur.l1 ≤ 32767)
      ∧ (fullRecord.valid = false → fullRecord.cur = .const 0)
      ∧ (∀ z ∈ ({ running.trip with bfRequest := some (zoneSetOf 1) } : Trip).bfRequest, ZoneSet.nonempty z = true)
      ∧ running.clock.index < 48000 ∧ failedA.link.paths.a.health ≤ 255 ∧ failedA.link.paths.b.health ≤ 255
      ∧ asked.ctl.mode = .run ∧ (asked.link.paths.get .a).state ≠ .down ∧ (asked.link.paths.get .a).sending = none
      ∧ (asked.link.paths.get .b).sending = some (.other, [0#8]) ∧ asked.link.queryPending = true
      ∧ asked.link.statusPending = true := by
  decide +kernel

/-- RUN with station 2 in a peer state and with this missed run. -/
def peerIs (st : PeerState) (missed : Nat) : State := running.onEntry two fun e => { e with state := st, missed := missed }

theorem witness_RosterExpiries :
    (peerIs .live 24).inRun = true ∧ (peerIs .live 24).isOwn two = false
      ∧ ((peerIs .live 24).entry two).state = .live ∧ ((peerIs .joining 24).entry two).state = .joining
      ∧ 24 ≤ ((peerIs .joining 24).entry two).missed
      ∧ ({ running with roster := { running.roster with conflict := true, conflictFree := 2400 } } : State).inRun = true := by
  decide +kernel

/-- RUN with CONFLICT raised, this conflict-free run, and conflict heard or not. -/
def conflicting (run : Nat) (heard : Bool) : State :=
  { running with roster := { running.roster with conflict := true, conflictFree := run, conflictHeard := heard } }

theorem witness_RosterExpiries_closure :
    running.ctl.mode = .run ∧ running.roster.conflict = false ∧ (conflicting 2399 true).rosterClosure.roster.conflictFree = 0
      ∧ (conflicting 2398 false).rosterClosure.roster.conflict = true
      ∧ (conflicting 2399 false).rosterClosure.roster.conflict = false := by decide +kernel

theorem witness_PeerStateRuns :
    Entry.initial.state = .absent ∧ ({ Entry.initial with sig := some 1#16 } : Entry).sig = some 1#16
      ∧ ({ Entry.initial with state := .live } : Entry).state = .live ∧ Entry.initial.missed = 0
      ∧ Entry.initial.frameSeen = false := by decide

/-- Each row of R59 has an entry: heard with and without a match, or not heard, in every state. -/
theorem witness_PeerStateRuns_rows :
    let e := fun (st : PeerState) (seen : Bool) (run : Nat) =>
      ({ Entry.initial with state := st, sig := some 1#16, frameSeen := seen, good := run, missed := run } : Entry)
    ((e .silent true 9).closure 1#16).state = .joining ∧ ((e .excluded true 9).closure 1#16).good = 1
      ∧ ((e .excluded true 9).closure 2#16).state = .excluded ∧ ((e .silent false 255).closure 1#16).missed = 255
      ∧ ((e .joining true 46).closure 1#16).state = .joining ∧ ((e .joining true 47).closure 1#16).state = .live
      ∧ ((e .joining false 22).closure 1#16).state = .joining ∧ ((e .joining false 23).closure 1#16).state = .silent
      ∧ ((e .live true 65535).closure 1#16).good = 65535 ∧ running.isOwn 6 = true ∧ running.isOwn two = false := by
  decide +kernel

/-- A STATUS of station 2 with this LIVE mask. -/
def statusOf (mask : BitVec 24) : Frame :=
  ⟨two, 5, .lockedSelf, running.ownSig, .status .active ⟨.feeder, some 0, none⟩ mask 2 0 0⟩

/-- RUN with station 2 LIVE, this view-mismatch run, and VIEW raised or not. -/
def viewing (run : Nat) (view : Bool) : State :=
  let s := running.onEntry two fun e => { e with state := .live, viewRun := run }
  { s with roster := { s.roster with view := view } }

theorem witness_StatusAgreement :
    ((viewing 2 false).entry two).statusSecond (statusOf 4#24) = false ∧ (viewing 2 false).live two = true
      ∧ (statusOf 4#24).sig = (viewing 2 false).ownSig ∧ (viewing 2 false).roster.view = false
      ∧ ((viewing 2 false).rosterTake .a (statusOf 4#24)).roster.view = true
      ∧ ((viewing 3 true).rosterTake .a (statusOf 2#24)).roster.view = false
      ∧ (((viewing 2 false).rosterTake .a (statusOf 4#24)).entry two).statusSecond (statusOf 4#24) = true
      ∧ (viewing 0 true).ctl.mode = .run ∧ (viewing 0 true).rosterClosure.roster.view = false
      ∧ (viewing 1 true).rosterClosure.roster.view = true := by decide +kernel

/-- Set 0 is the oldest open set, `d` instants before the latest. -/
def waiting (d : Nat) : State :=
  { running with
    asm := { running.asm with openSets := [emptySet 0, emptySet 1, emptySet 2] }, clock := { running.clock with index := d } }

theorem witness_SetDeadline :
    (waiting 2).working = true ∧ (waiting 2).clock.stepDue = none ∧ (waiting 2).sound = true
      ∧ (waiting 2).ta ≤ ahead (waiting 2).clock.index 0 ∧ ahead (waiting 2).clock.index 0 < 24000
      ∧ (waiting 23999).ta ≤ ahead (waiting 23999).clock.index 0 ∧ ahead (waiting 23999).clock.index 0 < 24000 := by
  decide +kernel

/-- Sets 0 to 2 are open with every slot FILLED, on both paths or, but for set 2, on one alone. -/
def filledSets : State :=
  let full := fun (k : Nat) (other : Bool) =>
    (⟨k, .const (goodSlot (.filled (sampleOf 1 true (some .a)) other))⟩ : OpenSet)
  { waiting 2 with asm := { running.asm with openSets := [emptySet 0, full 1 true, full 2 false] } }

theorem witness_SetDeadline_closes :
    filledSets.working = true ∧ filledSets.clock.stepDue = none ∧ filledSets.sound = true
      ∧ filledSets.ta ≤ ahead filledSets.clock.index 0
      ∧ ok .setDeadline filledSets (fun t => t.asm.openSets.map OpenSet.index == [2]) = true := by decide +kernel

/-- Breaker failure FAILED, without BLOCK IN, at a closure in RUN and in TEST. -/
theorem witness_SetDeadline_closure :
    let s := fun u : State => { u with
      asm := filledSets.asm, clock := filledSets.clock, trip := { u.trip with bf := .failed }
      bay := { u.bay with blockIn := { u.bay.blockIn with active := false } } }
    (s running).working = true ∧ (s testing).working = true ∧ (s running).sound = true ∧ (s testing).sound = true
      ∧ (s running).asm.openSets.length = 3 ∧ (s running).headComplete = false
      ∧ (s running).closeHead.headComplete = true ∧ (s running).closeHead.closeHead.headComplete = false
      ∧ (s running).closeHead.trip.output = true ∧ (s testing).closeHead.trip.testTrip = true := by decide +kernel

/-- Station 2 was LIVE at the last closure and filled its slot of set 1 from path A alone. -/
def onOnePath (health : Nat) : State :=
  let s := running.onEntry two fun e => { e with state := .live, liveAtClosure := true }
  { s.onPath .b fun p => { p with health := health } with
    asm := { running.asm with openSets :=
      [⟨1, (Tab.const OpenSlot.fresh).set two (goodSlot (.filled (sampleOf 1 true (some .a)) false))⟩] } }

theorem witness_SetDeadline_charges :
    (onOnePath 88).sound = true ∧ (onOnePath 88).inPop two = true ∧ (onOnePath 88).asm.openSets.length = 1
      ∧ (∀ o ∈ (onOnePath 88).asm.openSets, ((onOnePath 88).settle o).link.paths.b.health = 96
          ∧ ((onOnePath 88).settle o).link.paths.b.state = .degraded
          ∧ ((onOnePath 87).settle o).link.paths.b.state = .up ∧ ((onOnePath 247).settle o).link.paths.b.state = .failed
          ∧ ((onOnePath 88).settle o).link.paths.a = (onOnePath 88).link.paths.a
          ∧ ((onOnePath 88).settle o).asm.lastBay.get two = some (sampleOf 1 true (some .a)).bay) := by decide +kernel

/-- Station 2 LIVE, with a REAL slot of it in the history's set 47,953. -/
def withSource : State :=
  { peerIs .live 0 with asm := { running.asm with history :=
      [⟨47953, .ofFn fun _ => ⟨some .real, some (sampleOf 9 true none), false⟩, false⟩] } }

theorem witness_SettlingTable :
    (withSource.entry two).state = .live ∧ withSource.isOwn two = false
      ∧ (withSource.grant 1 two).map Contribution.cur = some ⟨9, 0, 0⟩ ∧ withSource.grant 2 two = none
      ∧ ((peerIs .joining 0).entry two).state = .joining ∧ ((peerIs .silent 0).entry two).state ≠ .live
      ∧ ((peerIs .silent 0).entry two).state ≠ .joining ∧ (sampleOf 1 true none).sync.acceptable = true
      ∧ (sampleOf 1 true none).valid = true ∧ (sampleOf 1 false none).valid = false
      ∧ ({ sampleOf 1 true none with sync := .acquiring } : Contribution).sync.acceptable = false
      ∧ running.isOwn 6 = true ∧ running.clock.sync.acceptable = false := by decide +kernel

theorem witness_SettlingTable_own :
    testing.isOwn 6 = true ∧ (testing.entry 6).state = .live ∧ testing.clock.sync.acceptable = true
      ∧ (1 : Nat) < 48000 ∧ testing.inPop 6 = true ∧ running.own = some 6
      ∧ (running.closedSet (emptySet 1)).ownSync = true ∧ (testing.closedSet (emptySet 1)).ownSync = false
      ∧ ((emptySet 1).slots.get 6).parityBad = false := by decide +kernel

/-- A tie of zones 1 and 2 that all stations know, with the open-run at Tend. -/
def tieKnown : Known := ⟨some ⟨.tie, some 0, some 1⟩, .const (some .closed), some 6, false⟩

/-- A feeder of zones 1 and 3 with both sides attached. -/
def feederKnown : Known := ⟨some ⟨.feeder, some 0, some 2⟩, .const (some .closed), none, false⟩

/-- Station 2 LIVE and known to be this. -/
def known2 (k : Known) : State :=
  { peerIs .live 0 with replica := { running.replica with known := (Tab.const Known.initial).set two k } }

theorem witness_EndOpen :
    (known2 tieKnown).working = true ∧ ((known2 tieKnown).replica.known.get two).openRun = some 6
      ∧ (known2 tieKnown).set8 21 ≤ 6 := by decide +kernel

/-- Station 2 LIVE, with this description carried in sets 0 and 1 and `kn` known of it. -/
def carrying (desc : BayDesc) (kn : Known) : State :=
  let c := { sampleOf 1 true none with bay := ⟨desc, .const .opened, none, .none⟩ }
  let set := fun k => (⟨k, .ofFn fun _ => ⟨some .real, some c, false⟩, false⟩ : ClosedSet)
  { known2 kn with asm := { running.asm with history := [set 1, set 0] } }

theorem witness_EndOpen_confirmed :
    (carrying ⟨.tie, some 0, some 1⟩ Known.initial).inPop two = true
      ∧ (carrying ⟨.tie, some 0, some 1⟩ Known.initial).isOwn two = false
      ∧ ((carrying ⟨.tie, some 0, some 1⟩ Known.initial).usableAt 0 two).isSome = true
      ∧ ((carrying ⟨.tie, some 0, some 1⟩ Known.initial).learn 1 two).desc = some ⟨.tie, some 0, some 1⟩
      ∧ ((carrying ⟨.tie, some 0, some 1⟩ Known.initial).learn 1 two).openRun = some 0
      ∧ ((carrying ⟨.tie, some 0, some 1⟩
          { tieKnown with conf := .const (some .opened), openRun := some 0 }).learn 1 two).openRun = some 1
      ∧ running.isOwn 6 = true ∧ ((running.learn 1 6).desc) = some running.ownDesc
      ∧ ((running.entry two).state = .absent) := by decide +kernel

theorem witness_MembershipShape :
    tieKnown.isTie = true ∧ feederKnown.isFeeder = true
      ∧ (known2 tieKnown).attachKnown (known2 tieKnown).replica.known two = true
      ∧ (known2 feederKnown).attachKnown (known2 feederKnown).replica.known two = true
      ∧ running.attachKnown running.replica.known two = false ∧ tieKnown.endOpen = false
      ∧ tieKnown.sideX = some 0 ∧ tieKnown.sideY = some 1
      ∧ ⟨two, false⟩ ∈ ((known2 tieKnown).membershipOf (known2 tieKnown).replica.known).members.get 0
      ∧ ⟨two, true⟩ ∈ ((known2 feederKnown).membershipOf (known2 feederKnown).replica.known).members.get 0 := by
  decide +kernel

theorem witness_MembershipShape_check :
    ((known2 feederKnown).membershipOf (known2 feederKnown).replica.known).check = [1]
      ∧ ((known2 feederKnown).membershipOf (known2 feederKnown).replica.known).checkMembers = [⟨1, true⟩] := by
  decide +kernel

theorem witness_PartitionNames :
    (known2 feederKnown).attachKnown (known2 feederKnown).replica.known two = true
      ∧ feederKnown.sideX = some 0 ∧ feederKnown.sideY = some 2
      ∧ ((known2 feederKnown).partition (known2 feederKnown).replica.known).get 2 = 0
      ∧ ((known2 tieKnown).partition (known2 tieKnown).replica.known).get 1 = 1
      ∧ running.own = some 6 ∧ running.replica.hasReference = false := by decide +kernel

theorem witness_TermOfMembers :
    [Member.mk 1 true, ⟨4, true⟩].length ≤ 24
      ∧ (∀ m ∈ [Member.mk 1 true, ⟨4, true⟩],
          ((((healthySet.read m.station).value).getD (.const 0)).get .l1).natAbs ≤ 32767)
      ∧ (⟨1, true⟩ : Member) ∈ ({ Membership.initial with check := [1] } : Membership).checkMembers := by decide +kernel

/-- A complete term with these values in L1. -/
def termOf (d s : Nat) : Term := ⟨0, false, ⟨d, 0, 0⟩, ⟨s, 0, 0⟩, false⟩

theorem witness_LatchTable :
    (termOf 300 20000).evidence 4096 = true ∧ (termOf 9000 11000).evidence 4096 = false
      ∧ ({ termOf 0 0 with incomplete := true } : Term).incomplete = true
      ∧ (⟨1, false, 0⟩ : Latch).evidence ≤ 2 ∧ (⟨2, true, 240⟩ : Latch).latched = true := by decide

/-- A full window whose L1 sums meet the condition. -/
def fullSlot : Slot := { Slot.initial with fill := 24, sumD := ⟨12288, 0, 0⟩, sumS := ⟨12288, 0, 0⟩ }

theorem witness_OperateRuns :
    1 ≤ 2 ∧ 1 ≤ 24 ∧ fullSlot.counter ≤ 2 ∧ (fullSlot.condition 512 24 40).any = true ∧ fullSlot.counter = 0
      ∧ fullSlot.operate = false ∧ (Slot.initial.condition 512 24 40).any = false
      ∧ ({ Slot.initial with operate := true } : Slot).dropOff = 0 := by decide

theorem witness_OperateCondition : running.replica.membership.inUse 0 = true := by decide +kernel

/-- A group in OPERATE whose drop-off run stands at W, and a latch that has run down. -/
def expiring : State :=
  { running with diff := { running.diff with
      groups := .const { Slot.initial with operate := true, dropOff := 24 }
      check := { Slot.initial with operate := true, dropOff := 24 }
      latches := .const ⟨0, true, 0⟩ } }

theorem witness_DiffExpiries :
    expiring.working = true ∧ (expiring.diff.latches.get 0).latched = true ∧ (expiring.diff.latches.get 0).hold = 0
      ∧ (expiring.diff.groups.get 3).operate = true ∧ expiring.windowW ≤ (expiring.diff.groups.get 3).dropOff
      ∧ expiring.diff.check.operate = true ∧ expiring.windowW ≤ expiring.diff.check.dropOff := by decide +kernel

/-- The replica after a closure that joins zone 3 to group 1. -/
def joined : State :=
  let s := known2 feederKnown
  { s with replica := { s.replica with membership := s.membershipOf s.replica.known, hasReference := true } }

/-- Its changes against four single zones. -/
def joining : Changes := { joined.replica with membership := Membership.initial }.changes joined.replica.membership

theorem witness_DiffExpiries_changes :
    joining.dissolved.get 2 = true ∧ joining.dissolved.get 0 = false ∧ joining.changed.get 0 = true
      ∧ joining.changed.get 1 = false ∧ (joining.former.get 0).get 2 = true
      ∧ (expiring.diff.latches.get 2).latched = true
      ∧ (Slot.initial.leavingBad 24) = false
      ∧ ({ fullSlot with ring := [{ termOf 1 1 with parityBad := true }] } : Slot).leavingBad 1 = true
      ∧ running.diff.blocked Slot.initial = false ∧ running.diff.blocked { Slot.initial with unknown := true } = true := by
  decide +kernel

/-- A full check-zone window of one term is updated, and rebuilt when its list changed. -/
theorem witness_DiffExpiries_check :
    let t := { Slot.initial.append (termOf 50 6150) with counter := 3, dropOff := 2, operate := true }
    let s := { joined with diff := { joined.diff with check := t } }
    joining.check = true ∧ s.windowReports .check t joined.replica.membership.checkMembers true healthySet = []
      ∧ t.sumD = ringTotal Term.d t.ring ∧ t.sumS = ringTotal Term.s t.ring ∧ t.fill = 1 ∧ t.incomplete = 0
      ∧ (s.diffCheck joining healthySet).diff.check.ring = [] ∧ (s.diffCheck joining healthySet).diff.check.counter = 0
      ∧ (s.diffCheck { joining with check := false } healthySet).diff.check.ring.length = 2
      ∧ (s.diffCheck { joining with check := false } healthySet).diff.check.counter = 3
      ∧ joined.replica.membership.groupOf.get 0 = 0 ∧ joined.replica.membership.groupOf.get 2 ≠ 2 := by decide +kernel

theorem witness_DiffExpiries_update : (Slot.initial.append (termOf 50 6150)).WindowSafe := by
  unfold Slot.WindowSafe Term.Bounded
  decide +kernel

/-- RUN with this Trip Unit, reported. -/
def tripIs (t : Trip) : State := running.withTrip t

theorem witness_TripExpiries :
    (tripIs { Trip.cold with bf := .timing }).inRun = true ∧ (tripIs { Trip.cold with bf := .timing }).trip.bfTimer = 0
      ∧ (tripIs { Trip.cold with bf := .timing }).trip.sumsKnown = false
      ∧ (tripIs { Trip.cold with output := true }).inRun = true ∧ Trip.cold.minTime = 0 ∧ Trip.cold.demand = false
      ∧ (testing.withTrip { Trip.cold with testTrip := true }).resetHeld = false
      ∧ (testing.withTrip { Trip.cold with testTrip := true }).ctl.mode = .test := by decide +kernel

/-- TIMING has run down with the sums known and low and the breaker confirmed open. -/
def cleared : State :=
  { running with
    trip := { Trip.cold with bf := .timing, sumsKnown := true }
    replica := { running.replica with known := .const { Known.initial with conf := .const (some .opened) } } }

theorem witness_TripExpiries_idle :
    cleared.inRun = true ∧ cleared.trip.bf = .timing ∧ cleared.trip.bfTimer = 0
      ∧ ¬(cleared.trip.sumsKnown = false ∨ cleared.ibf * cleared.windowW ≤ cleared.trip.ownSums.l1
        ∨ cleared.ibf * cleared.windowW ≤ cleared.trip.ownSums.l2
        ∨ cleared.ibf * cleared.windowW ≤ cleared.trip.ownSums.l3
        ∨ (cleared.set8 42 = 1 ∧ cleared.breakerOpen = false)) := by decide +kernel

theorem witness_TripExpiries_closure :
    running.own = some 6 ∧ (tripIs { Trip.cold with bf := .timing, bfTimer := 2 }).trip.bfTimer = 2
      ∧ (tripIs { Trip.cold with bf := .timing, bfTimer := 1 }).tripBf.bf = .failed
      ∧ cleared.tripBf.bf = .idle
      ∧ ({ cleared with trip := { cleared.trip with bf := .failed } } : State).tripBf.bf = .idle
      ∧ (tripIs { Trip.cold with bf := .failed }).tripBf.bf = .failed := by decide +kernel

/-- A Trip Unit with a ZONE demand. -/
def demanding : Trip := { Trip.cold with causes := ⟨true, false, false⟩, demand := true }

theorem witness_TripTables :
    Trip.cold.output = false ∧ Trip.cold.demand = false ∧ demanding.demand = true ∧ demanding.bf = .idle
      ∧ (demanding.causes.zone || demanding.causes.intertrip) = true
      ∧ ({ demanding with bf := .failed } : Trip).bf ≠ .idle ∧ ({ demanding with output := true } : Trip).output = true
      ∧ ({ Trip.cold with output := true, minTime := 2 } : Trip).demand = false
      ∧ ({ demanding with causes := ⟨true, true, true⟩ } : Trip).causes.retrip = true
      ∧ ({ demanding with causes := ⟨true, true, false⟩ } : Trip).causes.intertrip = true := by decide

/-- RUN with group 1 attached, station 2 LIVE with this confirmed request, and these causes. -/
def tripping (c : Causes) : State :=
  { peerIs .live 0 with
    replica := { running.replica with ownAttachment := zoneSetOf 1 }
    trip := { demanding with causes := c, confirmed := (Tab.const none).set two (some (zoneSetOf 1)) } }

/-- Group 1 and the check zone handed in OPERATE. -/
def handedZone : Handed := { groups := .ofFn fun g => g = 0, groupPhases := .const (.const true), check := true, checkPhases := .const true }

theorem witness_TripRecord :
    (tripping ⟨true, true, false⟩).attachedGroup 0 = true ∧ (tripping ⟨true, true, false⟩).requesting two = true
      ∧ (tripping ⟨true, true, false⟩).requesting 0 = false ∧ (tripping ⟨false, true, false⟩).requestMaps two 0 = true
      ∧ ((tripping ⟨true, false, false⟩).recordOf handedZone false 9).group = some 0
      ∧ ((tripping ⟨false, true, false⟩).recordOf handedZone false 9).requester = 2
      ∧ ({ demanding with output := false, testTrip := true, minTime := 1, demand := false } : Trip).testTrip = true := by
  decide +kernel

theorem witness_TripStateTable :
    ((tripping Causes.none).tripCauses handedZone).causes = ⟨true, true, false⟩
      ∧ (peerIs .live 0).isPeer two = true ∧ (peerIs .live 0).live two = true ∧ (peerIs .silent 0).live two = false
      ∧ running.isPeer 6 = false ∧ (0 : Nat) < 48000
      ∧ (carrying ⟨.tie, some 0, some 1⟩ Known.initial).carriedAt 1 two = .absent
      ∧ (carrying ⟨.tie, some 0, some 1⟩ Known.initial).realAt 1 two = true
      ∧ running.carriedAt 1 two = .unusable := by decide +kernel

/-- RUN with the recheck count at 2,400 and this block. -/
def rechecking (b : List Byte) : State :=
  { running with sup := { running.sup with recheck := 2400 }, ctl := { running.ctl with block := some b } }

theorem witness_ConfigRecheck :
    (rechecking testBlock).working = true ∧ 2400 ≤ (rechecking testBlock).sup.recheck
      ∧ blockCrcGood (rechecking testBlock).blockBytes = true
      ∧ (rechecking (blockWith 1 [218, 231])).working = true
      ∧ blockCrcGood (rechecking (blockWith 1 [218, 231])).blockBytes = false := by decide +kernel

theorem witness_ConfigRecheck_count :
    let s := fun (n : Nat) (b : List Byte) => { rechecking b with sup := { running.sup with recheck := n } }
    (s 2398 testBlock).recheckClosure.sup.recheck = 2399 ∧ (s 2399 testBlock).recheckClosure.sup.recheck = 0
      ∧ (s 2399 (blockWith 1 [218, 231])).recheckClosure.ctl.mode = .halted
      ∧ ((onOnePath 0).closureWork ⟨1, .const OpenSlot.fresh⟩).ctl.mode ≠ .halted := by decide +kernel

/-- RUN with mask 3 next and a datapath that is wrong for it in L2. -/
def upsetRun : State := { running with health := upset, sup := { running.sup with invertMask := 3 } }

theorem witness_ConfigRecheck_datapath :
    upsetRun.working = true ∧ 600 % 2400 = 600 ∧ 47400 % 2400 ≠ 600
      ∧ upsetRun.health.sums 3 .l2 ≠ checkerSums 3 ∧ upsetRun.health.sums 3 .l1 = checkerSums 3
      ∧ (∀ p ∈ [Phase.l1, .l2, .l3], running.health.sums 3 p = checkerSums 3)
      ∧ (upsetRun.datapathCheck 600).sup.fault.isSome = true := by decide +kernel

/-- RUN with a fault record, acknowledged or not. -/
def faulted (a : Bool) : State :=
  { running with sup := { running.sup with fault := some ⟨recordFault, 0, .run, 0, a⟩ } }

theorem witness_BlockingFaults :
    running.working = true ∧ running.health.faultCellBad = false ∧ running.sup.fault = none
      ∧ ({ running with health := ⟨[], true⟩ } : State).working = true
      ∧ ({ running with health := ⟨[], true⟩ } : State).health.faultCellBad = true
      ∧ (faulted true).working = true ∧ recordFault ≠ slotFault 0 two true
      ∧ (faulted true).sup.fault.map FaultRecord.acknowledged = some true
      ∧ (faulted false).sup.fault.map FaultRecord.report = some recordFault
      ∧ (faulted false).sup.fault.map FaultRecord.acknowledged = some false := by decide +kernel

/-- Station 2's slot of set 5 has a parity error while the cell holds `r`; set `k` is the oldest open one. -/
def badSlot (k : Nat) (r : Option FaultRecord) : State :=
  { running with
    asm := { running.asm with openSets := (if k = 5 then [] else [emptySet k]) ++ [⟨5, (Tab.const ⟨.empty, true⟩)⟩] }
    sup := { running.sup with fault := r } }

/-- The same fault in the cell. -/
def slotRecord (a : Bool) : FaultRecord := ⟨slotFault 5 two false, 0, .run, 7, a⟩

theorem witness_BlockingFaults_slot :
    let s := badSlot 4
    (s none).clock.stepDue = none ∧ (s none).inRun = true ∧ (s none).pathGood .a = true
      ∧ frameGood (frameOf running 2 samplePayload2) false = true
      ∧ (s none).schemeFrame (frameOf running 2 samplePayload2) = true
      ∧ parseFrame (frameOf running 2 samplePayload2) = some sample2 ∧ (s none).inMask two = true
      ∧ (s none).isOwn two = false ∧ sample2.sig = (s none).ownSig ∧ (s none).placement 5 = .inSet
      ∧ ((s none).findOpen 5).map (fun o => (o.slots.get two).parityBad) = some true
      ∧ (∀ h ∈ (s none).asm.openSets.head?, h.index ≠ 5) ∧ (∀ h ∈ (badSlot 5 none).asm.openSets.head?, h.index = 5)
      ∧ (s none).health.faultCellBad = false ∧ (s none).sup.fault = none ∧ (s none).own = some 6
      ∧ (s (some (slotRecord false))).sup.fault = some (slotRecord false)
      ∧ (faulted false).sup.fault.map FaultRecord.report ≠ some (slotFault 5 two false) := by decide +kernel

/-- The frame and the own record damage the slot, and the fault is recorded, counted or halts the station. -/
theorem witness_BlockingFaults_effects :
    let frame := frameOf running 2 samplePayload2
    let damaged := fun (t : State) (n : Station) => (t.findOpen 5).map (fun o => o.slots.get n) == some ⟨.damaged, false⟩
    ok (.arrival .a frame false) (badSlot 4 none) (fun t => damaged t two && t.diff.fault
        && t.sup.fault.map FaultRecord.report == some (slotFault 5 two false)) = true
      ∧ ok (.arrival .a frame false) (badSlot 5 none) (fun t => damaged t two) = true
      ∧ ok (.arrival .a frame false) (badSlot 4 (some (slotRecord false))) (fun t =>
          t.sup.fault.map FaultRecord.repeats == some 8) = true
      ∧ ok (.arrival .a frame false) (badSlot 4 (faulted false).sup.fault) (fun t => t.ctl.mode == .halted) = true
      ∧ damaged ((badSlot 4 none).fillOwn ⟨5, ⟨0, 0, 0⟩, .const false, true, .const .closed⟩) 6 = true := by
  decide +kernel

/-- An unacknowledged fault is in the cell when settling reads a damaged slot. -/
theorem witness_ConfigRecheck_halted :
    (badSlot 5 (faulted false).sup.fault).working = true
      ∧ ∀ o ∈ (badSlot 5 (faulted false).sup.fault).asm.openSets.head?,
        ((badSlot 5 (faulted false).sup.fault).closureWork o).ctl.mode = .halted := by decide +kernel

/-- The source in set 47,953 has a parity error, and with it the newest set's slots. -/
def badSource : State :=
  { withSource with asm := { running.asm with history :=
      [⟨47953, .ofFn fun _ => ⟨some .real, some (sampleOf 9 true none), true⟩, false⟩] } }

theorem witness_BlockingFaults_reads :
    badSource.eligible two .empty = true ∧ badSource.asm.gap.get two ≤ 1 ∧ (badSource.asm.marks.get two).count true < 4
      ∧ badSource.sourceReports (emptySet 1) = [slotFault 47953 two true] ∧ badSource.sourceReports (emptySet 2) = []
      ∧ badSource.replicaReports 47953 = [slotFault 47953 1 true, slotFault 47953 6 true]
      ∧ badSource.replicaReports 47954 = [slotFault 47953 1 true, slotFault 47953 6 true]
      ∧ badSource.tripReports 47953 = [slotFault 47953 6 true, slotFault 47953 1 true]
      ∧ (badSlot 4 none).openReports ⟨5, .const ⟨.empty, true⟩⟩ = [slotFault 5 1 false, slotFault 5 6 false] := by
  decide +kernel

/-- Group 1's window is full, and its oldest term has a parity error. -/
theorem witness_BlockingFaults_ring :
    let bad := { fullSlot with ring := List.replicate 24 { termOf 50 6150 with parityBad := true } }
    let s := { running with diff := { running.diff with groups := .const bad } }
    let same := running.replica.changes running.replica.membership
    let ch := { same with changed := .const false, dissolved := .const false }
    s.working = true ∧ s.replica.membership.groupOf.get 0 = 0 ∧ bad.leavingBad s.windowW = true
      ∧ (∀ f ∈ s.groupReports ch healthySet 0, f = ringFault (.group 0) 0) ∧ s.sup.fault = none
      ∧ s.health.faultCellBad = false
      ∧ (State.diffGroup ch s.diff.latches healthySet s 0).diff.fault = true := by decide +kernel

/-- CONFIG with this many characters in the line buffer. -/
def filledLine (n : Nat) : State :=
  { ready with svc := { ready.svc with line := ⟨List.replicate n 0x41#8, false, false⟩ } }

theorem witness_Characters :
    (filledLine 63).collects = true ∧ (filledLine 64).collects = true ∧ (filledLine 63).svc.line.buf.length < 64
      ∧ 64 ≤ (filledLine 64).svc.line.buf.length ∧ wordsOf (ready.lineEnded (chars "  ") false).buf = [] := by
  decide +kernel

theorem witness_IllCmd :
    ready.resetHeld = false ∧ ready.svc.iface = .collecting ∧ ready.svc.reply = []
      ∧ lineRow (ready.lineEnded (chars "GO") false) = .illCmd
      ∧ lineRow (ready.lineEnded (chars "STOP") true) = .illCmd ∧ (ready.lineEnded (chars "STOP") true).framing = true
      ∧ lineRow ((filledLine 64).lineEnded (chars "A") false) = .illCmd
      ∧ ((filledLine 64).lineEnded (chars "A") false).long = true
      ∧ (inStep 4).ctl.mode = .selftest ∧ lineRow ((inStep 4).lineEnded (chars "STOP X") false) = .illCmd := by
  decide +kernel

/-- The interface in a state of LOAD, in CONFIG, after this LOAD line. -/
def loading (i : IfState) (line : String) : State :=
  { ready with svc := { ready.svc with iface := i, loadLine := chars line ++ [0x0D#8], promptBusy := i == .loadData } }

/-- The same with this count and this transfer timer, the prompt sent. -/
def loadingAt (i : IfState) (count timer : Nat) : State :=
  let s := loading i "LOAD 58"
  { s with svc := { s.svc with count := count, timer := timer, promptBusy := false } }

theorem witness_LoadTimes :
    (loadingAt .loadSum 0 48000000).svc.timer ≤ 48000000 ∧ 48000000 < (loadingAt .loadSum 0 48000001).svc.timer
      ∧ ¬2400000 < (loadingAt .loadData 3 2400000).svc.timer ∧ 2400000 < (loadingAt .loadData 3 2400001).svc.timer
      ∧ 48000000 < (loadingAt .loadEnd 58 48000001).svc.timer ∧ (loadingAt .loadData 3 0).svc.promptBusy = false
      ∧ ok (.loadChecksumByte 0x46#8 false) (loadingAt .loadSum 0 48000000) (fun t => t.svc.iface == .loadData) = true
      ∧ ok (.loadChecksumByte 0x46#8 false) (loadingAt .loadSum 0 48000001) (fun t => t.svc.line.buf == [0x46#8]) = true
      ∧ ok (.loadDataByte 0x46#8 false) (loadingAt .loadData 3 2400001) (fun t => t.svc.line.buf == [0x46#8]) = true := by
  decide +kernel

theorem witness_LoadTimes_undisturbed :
    (loadingAt .loadSum 0 48000000).Undisturbed (48000000 - (loadingAt .loadSum 0 48000000).svc.timer)
      ∧ (loadingAt .loadSum 0 5).Undisturbed (48000000 - (loadingAt .loadSum 0 5).svc.timer)
      ∧ (loadingAt .loadData 3 2399999).Undisturbed (2400000 - (loadingAt .loadData 3 2399999).svc.timer)
      ∧ (loadingAt .loadEnd 58 0).Undisturbed (48000000 - (loadingAt .loadEnd 58 0).svc.timer) :=
  ⟨undisturbed_of_quiet (by decide +kernel), undisturbed_of_quiet (by decide +kernel),
    undisturbed_of_quiet (by decide +kernel), undisturbed_of_quiet (by decide +kernel)⟩

theorem witness_LoadLine :
    ready.resetHeld = false ∧ ready.svc.reply = [] ∧ lineRow (ready.lineEnded (chars "load 58") false) = .load
      ∧ (loading .loadSum "LOAD 58").svc.iface = .loadSum ∧ (loading .loadSum "LOAD 58").ctl.mode = .config
      ∧ sum256 ((loading .loadSum "LOAD 58").svc.loadLine ++ [0x46#8]) = 0
      ∧ sum256 ((loading .loadSum "LOAD 58").svc.loadLine ++ [0x47#8]) ≠ 0
      ∧ loadCount (loading .loadSum "LOAD 58").svc.loadLine = some 58
      ∧ sum256 ((loading .loadSum "LOAD 57").svc.loadLine ++ [0x47#8]) = 0
      ∧ loadCount (loading .loadSum "LOAD 57").svc.loadLine ≠ some 58
      ∧ running.ctl.mode ≠ .selftest ∧ running.ctl.mode ≠ .config ∧ (inStep 4).ctl.mode = .selftest
      ∧ (loading .loadSum "LOAD 58").working = false := by decide +kernel

theorem witness_LoadData :
    (loading .loadData "LOAD 58").svc.promptBusy = true ∧ (loading .loadEnd "LOAD 58").svc.iface = .loadEnd
      ∧ (loading .loadEnd "LOAD 58").svc.tframing = false ∧ (0 + (0#8 : Byte).toNat) % 256 = 0
      ∧ (0 + (1#8 : Byte).toNat) % 256 ≠ 0 ∧ (loading .loadEnd "LOAD 58").svc.promptBusy = false
      ∧ (loading .loadData "LOAD 58").ctl.mode = .config := by decide +kernel

theorem witness_CommitAndTest :
    lineRow (ready.lineEnded (chars "commit") false) = .commit ∧ lineRow (ready.lineEnded (chars "TEST") false) = .test
      ∧ ready.ctl.mode = .config ∧ ready.ctl.store ≠ .empty ∧ firstBad ready.blockBytes ready.own = none
      ∧ firstBad (readyWith .loaded (blockWith 1 [218, 231])).blockBytes (stationOf 7) = some 56
      ∧ (readyWith .empty []).ctl.store = .empty ∧ (readyWith .empty []).ctl.mode = .config
      ∧ lineRow ((readyWith .empty []).lineEnded (chars "TEST") false) = .test := by decide +kernel

/-- R55, R71, R115: COMMIT enters RUN with a FAILED path kept FAILED, another one by its line, and the own station
alone known. -/
theorem witness_CommitAndTest_entry :
    let s := ready.onPath .a fun p => { p with state := .failed, health := 3 }
    ok (.commit (chars "COMMIT")) s (fun t =>
      t.link.paths.a.state == .failed && t.link.paths.a.health == 255 && t.link.paths.b.state == .up
        && (t.entry 6).state == .live && (t.entry two).state == .absent
        && t.replica.known.get 6 == { Known.initial with desc := some s.ownDesc }) = true
      ∧ s.own = some 6 ∧ ((running.link.paths.get .b).state ≠ .failed) := by decide +kernel

theorem witness_ModeCommands :
    lineRow (testing.lineEnded (chars "ENDTEST") false) = .endtest ∧ testing.ctl.mode = .test
      ∧ testing.svc.iface = .collecting ∧ testing.svc.reply = [] ∧ testing.resetHeld = false
      ∧ lineRow (running.lineEnded (chars "STOP") false) = .stop ∧ running.ctl.mode = .run
      ∧ running.ctl.tripReported = false ∧ (tripIs { Trip.cold with output := true }).ctl.tripReported = true
      ∧ lineRow ((faulted false).lineEnded (chars "ACK") false) = .ack ∧ (faulted false).ctl.mode ≠ .halted
      ∧ lineRow (ready.lineEnded (chars "WARM") false) = .warm ∧ ready.ctl.mode ≠ .selftest
      ∧ lineRow (running.lineEnded (chars "COMMIT") false) = .commit
      ∧ lineRow (ready.lineEnded (chars "ENDTEST") false) = .endtest
      ∧ lineRow (ready.lineEnded (chars "STOP") false) = .stop
      ∧ lineRow ((haltedBy .stop).lineEnded (chars "ACK") false) = .ack ∧ (haltedBy .stop).ctl.mode = .halted
      ∧ lineRow ((inStep 4).lineEnded (chars "E MODE") false) = .examine ∧ (inStep 4).ctl.mode = .selftest := by
  decide +kernel

/-- CONFIG with an EXAMINE cursor. -/
def pointing (r : Rec) : State := { ready with svc := { ready.svc with cursor := some r } }

/-- R70: every ROSTER record shows the conflict-free run. -/
theorem test_conflict_free_run_shown :
    ReplyLine.field "CONFLICT-FREE RUN" (.num 17)
      ∈ ({ haltedBy .stop with roster := { ready.roster with conflict := true, conflictFree := 17 } } : State).recordLines
        (.roster two) := by decide +kernel

theorem witness_Examine :
    wordsOf (ready.lineEnded (chars "E ROSTER") false).buf = [chars "E", chars "ROSTER"]
      ∧ lineRow (ready.lineEnded (chars "E ROSTER") false) = .examine
      ∧ ask none [chars "ROSTER"] = .record (.roster 0) ∧ ask none [chars "GROUP", chars "5"] = .error .illIdx
      ∧ lineRow ((pointing .mode).lineEnded (chars "E *") false) = .examineAgain
      ∧ (pointing .mode).svc.cursor = some .mode
      ∧ lineRow (ready.lineEnded (chars "E") false) = .examineNext ∧ ready.svc.cursor = none := by decide +kernel

theorem witness_Examine_forms :
    ask (some (.path .a)) [] = .record (.path .b) ∧ ask (some (.path .b)) [chars "+"] = .error .illIdx
      ∧ ask (some (.roster 22)) [chars "+"] = .record (.roster 23) ∧ ask (some (.roster 23)) [chars "+"] = .error .illIdx
      ∧ ask (some (.group 3)) [chars "*"] = .record (.group 3) ∧ ask none [chars "*", chars "1"] = .error .illRec
      ∧ ask (some .mode) [chars "*", chars "1"] = .error .illCmd ∧ ask none [chars "MODE", chars "1"] = .error .illIdx
      ∧ ask none [chars "ROSTER", chars "24"] = .record (.roster 23) ∧ ask none [chars "PATHS"] = .error .illRec
      ∧ ask none [chars "ROSTER", chars "25"] = .error .illIdx ∧ ask none [chars "GROUP", chars "0"] = .error .illIdx
      ∧ ask none [chars "A", chars "B", chars "C"] = .error .illCmd := by decide +kernel

/-- REPLYING with a held line, or with a warm reset waiting. -/
def replying (held : Option Line) (warm : Bool) : State :=
  { ready with svc := { ready.svc with iface := .replying, reply := [.ok], held := held, warmWaits := warm } }

theorem witness_ReplyEnd :
    (replying none false).resetHeld = false ∧ (replying none false).svc.iface = .replying
      ∧ (replying none false).svc.held = none ∧ (replying none true).svc.warmWaits = true
      ∧ (replying (some ⟨chars "ACK", true, false⟩) false).svc.held = some ⟨chars "ACK", true, false⟩
      ∧ wordsOf (chars "ACK") = chars "ACK" :: [] ∧ (replying none false).svc.iface ≠ .collecting
      ∧ ready.svc.iface ≠ .replying ∧ State.reset.resetHeld = true := by decide +kernel

theorem witness_Characters_held :
    (replying none false).svc.held = none
      ∧ lineRow ((replying none false).lineEnded (chars "ACK") false) = .ack
      ∧ (replying (some ⟨chars "ACK", false, false⟩) false).svc.held = some ⟨chars "ACK", false, false⟩ := by
  decide +kernel

theorem witness_ReplyEnd_held :
    ok .replyEnd (replying (some ⟨chars "E MODE", false, false⟩) false) (fun t => t.svc.cursor == some .mode) = true
      ∧ commandOf (chars "LOAD") = some .load ∧ commandOf (chars "GO") = none
      ∧ commandOf (chars "STOP") = some .stop ∧ ready.ctl.mode ≠ .run ∧ (inStep 4).ctl.mode = .selftest := by
  decide +kernel

/-- RUN with TRIP asserted and reported, a group in OPERATE and the command ACK waiting. -/
def tripped : State :=
  { tripIs { demanding with output := true, minTime := 240 } with
    pending := [.ack (chars "ACK")]
    diff := { running.diff with groups := .const { Slot.initial with operate := true } } }

theorem witness_StepKeepsTripSafe : tripped.TripSafe ∧ ∃ t, step tripped = .next t := by
  refine ⟨?_, _, rfl⟩
  unfold State.TripSafe
  decide +kernel

theorem witness_StepKeepsBlockSafe : tripped.diff.BlockSafe ∧ ∃ t, step tripped = .next t := by
  refine ⟨?_, _, rfl⟩
  unfold Diff.BlockSafe
  decide +kernel

/-- RUN with one term in each group's window. -/
def oneTerm : State :=
  { running with diff := { running.diff with groups := .const (Slot.initial.append (termOf 50 6150)) } }

theorem witness_StepKeepsWindowsSafe : oneTerm.diff.WindowsSafe ∧ ∃ t, step oneTerm = .next t := by
  refine ⟨?_, _, rfl⟩
  unfold Diff.WindowsSafe Slot.WindowSafe Term.Bounded
  decide +kernel

theorem witness_StepKeepsPathsConsistent :
    failedA.link.paths.a.Consistent ∧ failedA.link.paths.b.Consistent ∧ ∃ t, step failedA = .next t := by
  refine ⟨?_, ?_, _, rfl⟩ <;>
  · unfold PathCtl.Consistent
    decide +kernel

theorem witness_StepKeepsClockInRange : stepping.clock.InRange ∧ ∃ t, step stepping = .next t := by
  refine ⟨?_, _, rfl⟩
  unfold Clock.InRange
  decide +kernel

end Sys2Proof.Tests
end

section
/-! PROOFS. Bay measurement: the scaling and clamping of a code (R5, R6) and the debouncing of a device (R10). -/

namespace Sys2Proof.Machine

/-! ### Rounding (R5) -/

/-- The rounding of a product that is not negative adds half the divisor and takes the floor. -/
theorem roundScale_of_nonneg {p : Int} (h : 0 ≤ p) : roundScale p = (p + 8192) / 16384 := if_pos h

@[simp] theorem roundScale_zero : roundScale 0 = 0 := rfl

/-- Rounding treats both signs alike, so its laws need proof only for products that are not negative. -/
@[simp] theorem roundScale_neg (p : Int) : roundScale (-p) = -roundScale p := by
  rcases lt_trichotomy p 0 with hneg | rfl | hpos
  · rw [roundScale, roundScale, if_pos (by omega), if_neg (by omega), neg_neg]
  · rfl
  · rw [roundScale, roundScale, if_neg (by omega), if_pos hpos.le, neg_neg]

/-- For a property that a product shares with its negation, it is enough to show it where the product is not
negative. -/
theorem roundScale_by_symmetry {P : Int → Int → Prop} (hneg : ∀ p x, P p x → P (-p) (-x))
    (hpos : ∀ p, 0 ≤ p → P p (roundScale p)) (p : Int) : P p (roundScale p) := by
  rcases le_total 0 p with h | h
  · exact hpos p h
  · simpa using hneg _ _ (hpos (-p) (by omega))

/-- The rounded value lies within half a unit of the quotient. -/
theorem roundScale_nearest (p : Int) : 2 * (16384 * roundScale p - p).natAbs ≤ 16384 := by
  refine roundScale_by_symmetry (P := fun p x => 2 * (16384 * x - p).natAbs ≤ 16384) ?_ ?_ p
  · intro p x h
    omega
  · intro p h
    rw [roundScale_of_nonneg h]
    omega

/-- At half a unit the rounded value is the one farther from zero. -/
theorem roundScale_half_away (p : Int) (h : 2 * (16384 * roundScale p - p).natAbs = 16384) :
    p.natAbs < (16384 * roundScale p).natAbs := by
  refine roundScale_by_symmetry
    (P := fun p x => 2 * (16384 * x - p).natAbs = 16384 → p.natAbs < (16384 * x).natAbs) ?_ ?_ p h
  · intro p x h
    omega
  · intro p h
    rw [roundScale_of_nonneg h]
    omega

/-! ### Clamping (R6) -/

@[simp] theorem scaleCode_over_range_high (m : Nat) : scaleCode 32767 m = (32767, true) := rfl

@[simp] theorem scaleCode_over_range_low (m : Nat) : scaleCode (-32768) m = (-32767, true) := rfl

/-- The sample of a code that is not an over-range code is its rounded product, clamped. -/
theorem scaleCode_of_ordinary {a : Int} (hhigh : a ≠ 32767) (hlow : a ≠ -32768) (m : Nat) :
    scaleCode a m = if 32767 < roundScale (a * m) then (32767, true)
      else if roundScale (a * m) < -32767 then (-32767, true) else (roundScale (a * m), false) := by
  simp [scaleCode, hhigh, hlow]

/-- The sample of a phase in the record of a valid measurement (R5, R14). -/
@[simp] theorem State.validRecord_cur_get (s : State) (c : PerPhase Int) (ph : Phase) :
    (s.validRecord c).cur.get ph = (scaleCode (c.get ph) (s.scale.get ph)).1 := by
  simp [State.validRecord]

/-- The clamp flag of a phase in the record of a valid measurement (R6, R14). -/
@[simp] theorem State.validRecord_clamp_get (s : State) (c : PerPhase Int) (ph : Phase) :
    (s.validRecord c).clamp.get ph = (scaleCode (c.get ph) (s.scale.get ph)).2 := by
  simp [State.validRecord]

/-- Settles O9: the rounding laws by symmetry in the sign, the clamp by the cases of the code and of the rounded
product, the record phase by phase. -/
theorem scalingAndClamp : Obligations.ScalingAndClamp := by
  unfold Obligations.ScalingAndClamp
  refine ⟨fun p => ⟨roundScale_nearest p, roundScale_half_away p, roundScale_neg p, roundScale_zero⟩, ?_, ?_⟩
  · intro a m
    refine ⟨?_, ?_, fun hhigh hlow => ?_⟩
    · rintro rfl
      exact scaleCode_over_range_high m
    · rintro rfl
      exact scaleCode_over_range_low m
    · rw [scaleCode_of_ordinary hhigh hlow]
      refine ⟨fun above => if_pos above, fun below => ?_, fun hmin hmax => ?_⟩
      · rw [if_neg (by omega), if_pos below]
      · rw [if_neg (by omega), if_neg (by omega)]
  · intro s c
    exact ⟨s.validRecord_cur_get c .l1, s.validRecord_cur_get c .l2, s.validRecord_cur_get c .l3,
      s.validRecord_clamp_get c .l1, s.validRecord_clamp_get c .l2, s.validRecord_clamp_get c .l3⟩

/-! ### The stability count (R10, R11) -/

/-- A saturating counter that is not past its limit. -/
theorem satInc_eq_min {limit n : Nat} (h : n ≤ limit) : satInc limit n = min limit (n + 1) := by
  unfold satInc
  split <;> omega

/-- A raw value that is the candidate already counts up to the debounce count. -/
theorem stability_of_cand {α : Type} [DecidableEq α] {count stab : Nat} (raw : α) (h : stab ≤ count) :
    stability count (some raw) stab raw = min count (stab + 1) := by
  rw [stability, if_pos rfl, satInc_eq_min h]

/-- A raw value other than the candidate begins a new count. -/
theorem stability_of_not_cand {α : Type} [DecidableEq α] {cand : Option α} {raw : α} (h : cand ≠ some raw)
    (count stab : Nat) : stability count cand stab raw = 1 := if_neg h

/-! ### The debouncing of a device (R10) -/

section

variable (d : Debounce) (count limit : Nat) (raw : DPoint)

/-- Travel supervision moves nothing but the travel count and the expired marker. -/
theorem Debounce.travelStep_eq (changed : Bool) : ∃ travel expired,
    d.travelStep changed limit = { d with travel := travel, expired := expired } := by
  unfold Debounce.travelStep
  repeat' split
  all_goals exact ⟨_, _, rfl⟩

/-- The debouncing of an instant. The debounced state takes the raw value whenever the stability count stands at
the debounce count: where the step leaves it alone then, it is the raw value already. -/
theorem Debounce.step_eq : ∃ travel expired, d.step count limit raw =
    { cand := some raw, stab := stability count d.cand d.stab raw
      deb := if stability count d.cand d.stab raw = count then raw else d.deb
      travel := travel, expired := expired } := by
  obtain ⟨travel, expired, htravel⟩ := Debounce.travelStep_eq _ limit _
  refine ⟨travel, expired, htravel.trans ?_⟩
  by_cases hstab : stability count d.cand d.stab raw = count <;> by_cases hraw : raw = d.deb <;>
    simp [hstab, hraw]

@[simp] theorem Debounce.step_cand : (d.step count limit raw).cand = some raw := by
  obtain ⟨_, _, h⟩ := d.step_eq count limit raw
  rw [h]

@[simp] theorem Debounce.step_stab : (d.step count limit raw).stab = stability count d.cand d.stab raw := by
  obtain ⟨_, _, h⟩ := d.step_eq count limit raw
  rw [h]

theorem Debounce.step_deb : (d.step count limit raw).deb
    = if (d.step count limit raw).stab = count then raw else d.deb := by
  obtain ⟨_, _, h⟩ := d.step_eq count limit raw
  rw [h]

end

/-- A raw value that was not the candidate and comes at `n + 1` instants in a row: it is the candidate, its
stability count is `n + 1` up to the debounce count, and it is the debounced state from the debounce count on. -/
theorem Debounce.step_iterate {d : Debounce} {count : Nat} {raw : DPoint} (limit : Nat) (hcount : 1 ≤ count)
    (hcand : d.cand ≠ some raw) (n : Nat) :
    ((fun e : Debounce => e.step count limit raw)^[n + 1] d).cand = some raw
      ∧ ((fun e : Debounce => e.step count limit raw)^[n + 1] d).stab = min count (n + 1)
      ∧ ((fun e : Debounce => e.step count limit raw)^[n + 1] d).deb = if count ≤ n + 1 then raw else d.deb := by
  induction n with
  | zero =>
    have hstab : (d.step count limit raw).stab = 1 := by
      rw [Debounce.step_stab, stability_of_not_cand hcand]
    refine ⟨d.step_cand count limit raw, hstab.trans (by omega), ?_⟩
    rw [Function.iterate_one, Debounce.step_deb, hstab]
    exact if_congr (by omega) rfl rfl
  | succ n ih =>
    rw [Function.iterate_succ_apply']
    generalize (fun e : Debounce => e.step count limit raw)^[n + 1] d = e at ih ⊢
    obtain ⟨ihcand, ihstab, ihdeb⟩ := ih
    have hstab : (e.step count limit raw).stab = min count (n + 1 + 1) := by
      rw [Debounce.step_stab, ihcand, stability_of_cand raw (by omega), ihstab]
      omega
    refine ⟨e.step_cand count limit raw, hstab, ?_⟩
    rw [Debounce.step_deb, hstab, ihdeb]
    by_cases hreach : count ≤ n + 1 + 1
    · rw [if_pos (by omega), if_pos hreach]
    · rw [if_neg (by omega), if_neg (by omega), if_neg hreach]

/-- Settles O11: the step's equations, and for a run of equal raw values the induction on its length. -/
theorem debounceFollowsStableStates : Obligations.DebounceFollowsStableStates := by
  unfold Obligations.DebounceFollowsStableStates
  intro d raw count limit hcount hstab
  refine ⟨d.step_cand count limit raw, fun hcand => ?_, fun hcand => ?_, d.step_deb count limit raw,
    fun hcand _ n => ?_⟩
  · rw [Debounce.step_stab, hcand, stability_of_cand raw hstab]
  · rw [Debounce.step_stab, stability_of_not_cand hcand]
  · cases n with
    | zero => rw [if_neg (by omega), Function.iterate_zero_apply]
    | succ n =>
      obtain ⟨-, -, hdeb⟩ := Debounce.step_iterate limit hcount hcand n
      exact hdeb

end Sys2Proof.Machine
end

section
/-! PROOFS. The zone link: the checks of a received payload (R47), and the frames that acceptance drops at its
steps 1 to 4 (R45 to R48). -/

namespace Sys2Proof.Machine

/-! ### Bytes and bits of a payload -/

/-- The bytes of a payload are those of its frame, past what stands before it. -/
theorem byteAt_drop (bytes : List Byte) (n : Nat) : byteAt (bytes.drop n) = fun i => byteAt bytes (n + i) := by
  funext i
  simp [byteAt, List.getD, List.getElem?_drop]

theorem byteAt_lt (bytes : List Byte) (i : Nat) : byteAt bytes i < 256 := (bytes.getD i 0#8).isLt

/-- A 16-bit field fits 16 bits. -/
theorem u16At_lt (bytes : List Byte) (i : Nat) : u16At bytes i < 65536 := by
  have hlow := byteAt_lt bytes i
  have hhigh := byteAt_lt bytes (i + 1)
  unfold u16At
  omega

theorem bitOf_eq_testBit (n i : Nat) : bitOf n i = n.testBit i := by
  rw [bitOf, Nat.testBit_eq_decide_div_mod_eq]
  rfl

/-! ### Codes and the values they name (00_scope.md 4.8, R47) -/

/-- The sender's byte names the station of its number. -/
theorem stationOf_eq_some_iff (n : Nat) (m : Station) : stationOf n = some m ↔ m.val + 1 = n := by
  rw [stationOf]
  split
  · rw [Option.some_inj, Fin.ext_iff]
    dsimp only
    omega
  · simp only [reduceCtorEq, false_iff]
    omega

theorem isSome_stationOf (n : Nat) : (stationOf n).isSome = true ↔ 1 ≤ n ∧ n ≤ 24 := by
  unfold stationOf
  split
  next h => simpa using h
  next h => simpa using h

theorem code_of_syncOf {n : Nat} {x : SyncState} (h : syncOf n = some x) : x.code = n := by
  unfold syncOf at h
  split at h <;> cases h <;> rfl

theorem isSome_syncOf : ∀ n, (syncOf n).isSome = true ↔ n ≤ 5
  | 0 | 1 | 2 | 3 | 4 | 5 => by simp [syncOf]
  | n + 6 => by simp [syncOf]

theorem isSome_dpointOf : ∀ n, (dpointOf n).isSome = true ↔ n ≤ 3
  | 0 | 1 | 2 | 3 => by simp [dpointOf]
  | n + 4 => by simp [dpointOf]

theorem isSome_tripOf : ∀ n, (tripOf n).isSome = true ↔ n ≤ 3
  | 0 | 1 | 2 | 3 => by simp [tripOf]
  | n + 4 => by simp [tripOf]

theorem isSome_protOf : ∀ n, (protOf n).isSome = true ↔ n ≤ 2
  | 0 | 1 | 2 => by simp [protOf]
  | n + 3 => by simp [protOf]

/-- The bay kind and the zones of its sides pass the checks of R47. -/
def Described (kind x y : Nat) : Prop :=
  (kind = 1 ∨ kind = 2) ∧ x ≤ 4 ∧ y ≤ 4 ∧ (kind = 1 → ¬(x = 0 ∧ y = 0)) ∧ (kind = 2 → x ≠ 0 ∧ y ≠ 0 ∧ x ≠ y)

theorem isSome_descOf (x y : Nat) : ∀ kind, (descOf kind x y).isSome = true ↔ Described kind x y
  | 0 => by simp [descOf, Described]
  | 1 => by simp [Option.isSome_iff_exists, descOf, Described, descOk, and_assoc, imp_iff_not_or]
  | 2 => by simp [Option.isSome_iff_exists, descOf, Described, descOk, and_assoc]
  | kind + 3 => by simp [descOf, Described]

/-! ### The checks of each kind of payload (R47) -/

/-- The checks of a SAMPLE payload beyond the shared header, by its bytes `b`. -/
def SampleChecks (b : Nat → Nat) : Prop :=
  Described (b 8) (b 9) (b 11) ∧ b 10 ≤ 3 ∧ b 12 ≤ 3 ∧ b 13 ≤ 3 ∧ b 15 ≤ 3
    ∧ b 5 ≤ 31 ∧ b 14 ≤ 15 ∧ ((b 5).testBit 4 = true ↔ b 14 ≠ 0)
    ∧ ((b 5).testBit 0 = true → b 16 + 256 * b 17 ≠ 32768 ∧ b 18 + 256 * b 19 ≠ 32768 ∧ b 20 + 256 * b 21 ≠ 32768)

/-- The checks of a STATUS payload beyond the shared header, by its bytes `b`. -/
def StatusChecks (b : Nat → Nat) : Prop := Described (b 8) (b 9) (b 10) ∧ b 5 ≤ 2 ∧ b 14 ≤ 24

theorem isSome_sampleBody (p : List Byte) : (sampleBody p).isSome = true ↔ SampleChecks (byteAt p) := by
  have hflag : (byteAt p 5).testBit 4 = (byteAt p 14 != 0) ↔ ((byteAt p 5).testBit 4 = true ↔ byteAt p 14 ≠ 0) := by
    rw [Bool.eq_iff_iff, bne_iff_ne]
  simp only [sampleBody, Option.bind_eq_bind, Option.isSome_bind, Option.any_eq_true, Option.isSome_ite,
    exists_and_right, ← Option.isSome_iff_exists, isSome_descOf, isSome_dpointOf, isSome_tripOf, bitOf_eq_testBit,
    hflag, u16At, SampleChecks, Nat.lt_succ_iff]

theorem isSome_statusBody (p : List Byte) : (statusBody p).isSome = true ↔ StatusChecks (byteAt p) := by
  simp only [statusBody, Option.bind_eq_bind, Option.isSome_bind, Option.any_eq_true, Option.isSome_ite,
    exists_and_right, ← Option.isSome_iff_exists, isSome_protOf, isSome_descOf, StatusChecks]
  exact and_left_comm

/-- What a SAMPLE payload reads as: a SAMPLE body, with currents of 0 without measurement valid (R47, R76). -/
theorem eq_sample_of_sampleBody {p : List Byte} {body : Body} (h : sampleBody p = some body) :
    ∃ valid clamp cur bay, body = .sample valid clamp cur bay ∧ (valid = false → cur = .const 0) := by
  simp only [sampleBody, Option.bind_eq_bind, Option.bind_eq_some_iff, Option.ite_none_right_eq_some,
    Option.some_inj] at h
  obtain ⟨desc, -, x, -, y, -, b, -, trip, -, -, rfl⟩ := h
  exact ⟨_, _, _, _, rfl, fun hvalid => if_neg (by simp [hvalid])⟩

/-- What a STATUS payload reads as. -/
theorem eq_status_of_statusBody {p : List Byte} {body : Body} (h : statusBody p = some body) :
    ∃ prot desc mask authority healthA healthB, body = .status prot desc mask authority healthA healthB := by
  simp only [statusBody, Option.bind_eq_bind, Option.bind_eq_some_iff, Option.ite_none_right_eq_some,
    Option.some_inj] at h
  obtain ⟨prot, -, desc, -, -, rfl⟩ := h
  exact ⟨_, _, _, _, _, _, rfl⟩

/-- The kind of a payload chooses the checks and the reading of its body. -/
theorem bodyOf_eq_some_iff (p : List Byte) (body : Body) : bodyOf p = some body ↔
    (byteAt p 0 = 1 ∧ sampleBody p = some body) ∨ (byteAt p 0 = 2 ∧ .query = body)
      ∨ (byteAt p 0 = 3 ∧ statusBody p = some body) := by
  unfold bodyOf
  split <;> simp_all

theorem isSome_bodyOf (p : List Byte) : (bodyOf p).isSome = true ↔
    (byteAt p 0 = 1 ∨ byteAt p 0 = 2 ∨ byteAt p 0 = 3)
      ∧ (byteAt p 0 = 1 → SampleChecks (byteAt p)) ∧ (byteAt p 0 = 3 → StatusChecks (byteAt p)) := by
  unfold bodyOf
  split <;> simp_all [isSome_sampleBody, isSome_statusBody]

/-- The kind of a body is the kind of its payload, and the currents of a SAMPLE are 0 without measurement valid. -/
theorem kind_of_bodyOf {p : List Byte} {body : Body} (h : bodyOf p = some body) :
    (body = .query ↔ byteAt p 0 = 2) ∧ (body.isSample = true ↔ byteAt p 0 = 1)
      ∧ ∀ clamp cur bay, body = .sample false clamp cur bay → cur = .const 0 := by
  obtain ⟨hkind, hbody⟩ | ⟨hkind, rfl⟩ | ⟨hkind, hbody⟩ := (bodyOf_eq_some_iff p body).1 h
  · obtain ⟨valid, clamp, cur, bay, rfl, hcur⟩ := eq_sample_of_sampleBody hbody
    simp only [hkind, Body.isSample, Body.sample.injEq, reduceCtorEq, true_and]
    refine ⟨by decide, ?_⟩
    rintro _ _ _ ⟨hvalid, -, rfl, -⟩
    exact hcur hvalid
  · simp [hkind, Body.isSample]
  · obtain ⟨prot, desc, mask, authority, healthA, healthB, rfl⟩ := eq_status_of_statusBody hbody
    simp [hkind, Body.isSample]

/-! ### The payload of a frame (R47) -/

/-- What step 3 reads of a frame, and from which bytes. -/
theorem parseFrame_eq_some_iff (bytes : List Byte) (f : Frame) : parseFrame bytes = some f ↔
    stationOf (byteAt bytes 15) = some f.sender ∧ syncOf (byteAt bytes 18) = some f.sync
      ∧ bodyOf (bytes.drop 14) = some f.body ∧ u16At bytes 16 < 48000
      ∧ f.index = u16At bytes 16 ∧ f.sig = BitVec.ofNat 16 (u16At bytes 20) := by
  simp only [parseFrame, u16At, byteAt_drop, Option.bind_eq_bind, Option.bind_eq_some_iff,
    Option.ite_none_right_eq_some, Option.some_inj]
  constructor
  · rintro ⟨sender, hsender, sync, hsync, body, hbody, hindex, rfl⟩
    exact ⟨hsender, hsync, hbody, hindex, rfl, rfl⟩
  · rintro ⟨hsender, hsync, hbody, hindex, hindexEq, hsig⟩
    exact ⟨f.sender, hsender, f.sync, hsync, f.body, hbody, hindex, by rw [← hindexEq, ← hsig]⟩

/-- A payload passes step 3 exactly when its bytes pass the checks of the shared header and those of its kind. -/
theorem parseFrame_ne_none_iff (bytes : List Byte) : parseFrame bytes ≠ none ↔
    (byteAt bytes 14 = 1 ∨ byteAt bytes 14 = 2 ∨ byteAt bytes 14 = 3) ∧ 1 ≤ byteAt bytes 15 ∧ byteAt bytes 15 ≤ 24
      ∧ byteAt bytes 16 + 256 * byteAt bytes 17 < 48000 ∧ byteAt bytes 18 ≤ 5
      ∧ (byteAt bytes 14 = 1 → SampleChecks fun i => byteAt bytes (14 + i))
      ∧ (byteAt bytes 14 = 3 → StatusChecks fun i => byteAt bytes (14 + i)) := by
  simp only [← Option.isSome_iff_ne_none, parseFrame, Option.bind_eq_bind, Option.isSome_bind, Option.any_eq_true,
    Option.isSome_ite, exists_and_right, ← Option.isSome_iff_exists, isSome_stationOf, isSome_syncOf, isSome_bodyOf,
    byteAt_drop, u16At]
  tauto

/-! ### Acceptance that ends at a step (R45 to R48) -/

section

variable (s : State) (p : Path) (bytes : List Byte) (e : Bool)

theorem frameGood_iff : frameGood bytes e = true ↔
    64 ≤ bytes.length ∧ bytes.length ≤ 1518 ∧ crc32 bytes = 0xC704DD7B#32 ∧ e = false := by
  simp [frameGood, crc32Residue, and_assoc]

theorem State.schemeFrame_iff : s.schemeFrame bytes = true ↔
    bytes.take 6 = s.groupAddress ∧ byteAt bytes 12 * 256 + byteAt bytes 13 = s.linkType := by
  simp [State.schemeFrame]

variable {bytes e}

/-- Step 1 drops a bad frame (R45). -/
theorem State.judgeFrame_bad (h : frameGood bytes e = false) :
    s.judgeFrame p bytes e = s.onPath p PathCtl.badFcs := by
  simp [State.judgeFrame, h]

/-- Step 2 drops a frame of another scheme (R46). -/
theorem State.judgeFrame_otherScheme (h : frameGood bytes e = true) (h1 : s.schemeFrame bytes = false) :
    s.judgeFrame p bytes e = s := by
  simp [State.judgeFrame, h, h1]

/-- Step 3 drops a malformed frame (R47). -/
theorem State.judgeFrame_malformed (h : frameGood bytes e = true) (h1 : s.schemeFrame bytes = true)
    (h2 : parseFrame bytes = none) : s.judgeFrame p bytes e = s.onPath p PathCtl.badPayload := by
  simp [State.judgeFrame, h, h1, h2]

/-- Step 4 drops a frame from outside the population mask (R48). -/
theorem State.judgeFrame_foreign {f : Frame} (h : frameGood bytes e = true) (h1 : s.schemeFrame bytes = true)
    (h2 : parseFrame bytes = some f) (h3 : s.inMask f.sender = false) :
    s.judgeFrame p bytes e = s.onPath p PathCtl.badSender := by
  simp [State.judgeFrame, h, h1, h2, State.judgeSender, h3]

end

/-- A charge moves nothing but the health count and the path state. -/
theorem PathCtl.charge_fields (n : Nat) (p : PathCtl) :
    ∃ health st, p.charge n = { p with health := health, state := st } := by
  unfold PathCtl.charge
  split
  · exact ⟨_, _, rfl⟩
  · exact ⟨_, _, rfl⟩

/-- A bad frame adds 1 to the FCS count, and 8 to the health count of a path that is not DOWN (R45, R50). -/
theorem PathCtl.badFcs_counts (p : PathCtl) (h : p.state ≠ .down) :
    p.badFcs.fcs = satInc 65535 p.fcs ∧ p.badFcs.health = min 255 (p.health + 8) := by
  refine ⟨?_, PathCtl.charge_health _ _ h⟩
  obtain ⟨_, _, hcharge⟩ := PathCtl.charge_fields 8 { p with fcs := satInc Config.count16 p.fcs }
  rw [PathCtl.badFcs, hcharge]

/-- A malformed frame adds 1 to the malformed count, and 8 to the health count of a path that is not DOWN (R47,
R50). -/
theorem PathCtl.badPayload_counts (p : PathCtl) (h : p.state ≠ .down) :
    p.badPayload.malformed = satInc 65535 p.malformed ∧ p.badPayload.health = min 255 (p.health + 8) := by
  refine ⟨?_, PathCtl.charge_health _ _ h⟩
  obtain ⟨_, _, hcharge⟩ := PathCtl.charge_fields 8 { p with malformed := satInc Config.count16 p.malformed }
  rw [PathCtl.badPayload, hcharge]

/-- To drive the outputs changes the outputs alone. -/
theorem State.onlyLink_driven (s : State) : s.OnlyLink s.driven := by simp [State.OnlyLink]

/-- A change of one path stays in the Link Controller. -/
theorem State.onlyLink_onPath (s : State) (p : Path) (f : PathCtl → PathCtl) : s.OnlyLink (s.onPath p f).driven := by
  simp [State.OnlyLink]

/-- A frame whose judgement changes one path: the next state has that change, and the other path as it was. -/
theorem State.arrival_onPath (s : State) (p : Path) (bytes : List Byte) (e : Bool) {g : PathCtl → PathCtl}
    (h : s.clock.stepDue = none) (h1 : s.inRun = true) (h2 : (s.link.paths.get p).state ≠ .down)
    (h3 : s.judgeFrame p bytes e = s.onPath p g) :
    ∃ t, exec (.arrival p bytes e) s = .next t ∧ s.OnlyLink t ∧ t.link.paths.get p = g (s.link.paths.get p)
      ∧ t.link.paths.get p.other = s.link.paths.get p.other :=
  ⟨(s.onPath p g).driven, by rw [exec_arrival s p bytes e h h1 h2, h3], s.onlyLink_onPath p g, by simp, by simp⟩

/-- Settles O22: the checks kind by kind and the bytes each field is read from; the drops by the step at which
acceptance ends. -/
theorem arrivalDropped : Obligations.ArrivalDropped := by
  unfold Obligations.ArrivalDropped
  refine ⟨fun bytes => ⟨parseFrame_ne_none_iff bytes, fun f hparse => ?_⟩, fun s p bytes e hstep hrun hup => ?_⟩
  · obtain ⟨hsender, hsync, hbody, -, hindex, hsig⟩ := (parseFrame_eq_some_iff bytes f).1 hparse
    obtain ⟨hquery, hsample, hcur⟩ := kind_of_bodyOf hbody
    rw [byteAt_drop] at hquery hsample
    have hsigNat : f.sig.toNat = u16At bytes 20 := by
      rw [hsig, BitVec.toNat_ofNat, Nat.mod_eq_of_lt (u16At_lt bytes 20)]
    exact ⟨(stationOf_eq_some_iff _ _).1 hsender, hindex, code_of_syncOf hsync, hsigNat, hquery, hsample, hcur⟩
  · have changed {g} := s.arrival_onPath p bytes e (g := g) hstep hrun hup
    refine ⟨frameGood_iff bytes e, s.schemeFrame_iff bytes, fun hbad => ?_, fun hgood hother => ?_,
      fun hgood hscheme hnone => ?_, fun f hgood hscheme hparse hmask => ?_⟩
    · obtain ⟨t, hexec, hframe, hpath, hother⟩ := changed (s.judgeFrame_bad p hbad)
      obtain ⟨hcount, hhealth⟩ := PathCtl.badFcs_counts _ hup
      exact ⟨t, hexec, hframe, by rw [hpath, hcount], by rw [hpath, hhealth], hother⟩
    · refine ⟨s.driven, ?_, s.onlyLink_driven, rfl⟩
      rw [exec_arrival s p bytes e hstep hrun hup, s.judgeFrame_otherScheme p hgood hother]
    · obtain ⟨t, hexec, hframe, hpath, hother⟩ := changed (s.judgeFrame_malformed p hgood hscheme hnone)
      obtain ⟨hcount, hhealth⟩ := PathCtl.badPayload_counts _ hup
      exact ⟨t, hexec, hframe, by rw [hpath, hcount], by rw [hpath, hhealth], hother⟩
    · exact changed (s.judgeFrame_foreign p hgood hscheme hparse hmask)

end Sys2Proof.Machine
end

section
/-! PROOFS. The Peer Roster: what a STATUS leaves in its sender's entry, the agreement of LIVE masks, the
view-mismatch run and VIEW (R65 to R68). -/

namespace Sys2Proof.Machine

/-! ### Bits of a LIVE mask (R63, R66) -/

/-- The bits of a number made of a list of bits are that list's. -/
theorem testBit_natOfBits (bs : List Bool) (i : Nat) : (natOfBits bs).testBit i = bs.getD i false := by
  induction bs generalizing i with
  | nil => simp [natOfBits]
  | cons b bs ih =>
    have hbit : natOfBits (b :: bs) = Nat.bit b (natOfBits bs) := by
      cases b <;> simp [natOfBits, Nat.bit, Nat.add_comm]
    rw [hbit]
    cases i with
    | zero => simp
    | succ i => simp [Nat.testBit_bit_succ, ih]

/-- The own LIVE mask has the bit of each LIVE station. -/
theorem State.getLsbD_liveMask (s : State) (n : Station) : s.roster.liveMask.getLsbD n.val = s.live n := by
  rw [Roster.liveMask, BitVec.getLsbD_ofNat, testBit_natOfBits]
  simp [stations, State.live, State.entry]

/-- The mask of one station has that station's bit alone. -/
theorem getLsbD_stationBit (n m : Station) : (stationBit n).getLsbD m.val = decide (m = n) := by
  rw [stationBit, BitVec.getLsbD_shiftLeft, BitVec.getLsbD_one, Bool.eq_iff_iff]
  simp [Fin.ext_iff]
  omega

/-- Two masks that differ within `x` alone are equal in every other bit. -/
theorem xor_and_not_eq_zero_iff (m1 m2 x : BitVec 24) : (m1 ^^^ m2) &&& ~~~x = 0#24 ↔
    ∀ n : Station, x.getLsbD n.val = false → m1.getLsbD n.val = m2.getLsbD n.val := by
  rw [BitVec.eq_of_getLsbD_eq_iff, ← Fin.forall_iff (p := fun n : Station =>
    ((m1 ^^^ m2) &&& ~~~x).getLsbD n.val = (0#24).getLsbD n.val)]
  refine forall_congr' fun n => ?_
  rw [BitVec.getLsbD_and, BitVec.getLsbD_xor, BitVec.getLsbD_not, BitVec.getLsbD_zero, decide_eq_true n.isLt]
  cases x.getLsbD n.val <;> simp

/-- Agreement is equality in every bit but the sender's and the own (R66). -/
theorem masksAgree_iff (sender : Station) (own : Option Station) (m1 m2 : BitVec 24) :
    masksAgree sender own m1 m2 = true ↔
      ∀ n : Station, n ≠ sender → own ≠ some n → m1.getLsbD n.val = m2.getLsbD n.val := by
  unfold masksAgree
  rw [beq_iff_eq, xor_and_not_eq_zero_iff]
  refine forall_congr' fun n => ?_
  rw [BitVec.getLsbD_or, getLsbD_stationBit]
  cases own with
  | none => simp
  | some o =>
    rw [getLsbD_stationBit]
    simp [eq_comm (a := o)]

/-! ### VIEW (R68) -/

section

variable (s : State)

/-- Quiet: every peer that reads LIVE has a view-mismatch run of 0. -/
theorem State.viewQuiet_iff : s.viewQuiet = true ↔
    ∀ m, s.isOwn m = false → s.live m = true → (s.entry m).viewRun = 0 := by
  simp only [State.viewQuiet, stations, List.all_eq_true, List.mem_finRange, true_implies]
  refine forall_congr' fun m => ?_
  cases s.isOwn m <;> cases s.live m <;> simp

/-- Setting VIEW to what it is changes nothing. -/
theorem State.view_eta {v : Bool} (h : s.roster.view = v) : { s with roster := { s.roster with view := v } } = s := by
  rw [← h]

/-- What clears VIEW changes VIEW alone. -/
theorem State.viewClear_eq :
    s.viewClear = { s with roster := { s.roster with view := s.roster.view && !s.viewQuiet } } := by
  unfold State.viewClear
  split_ifs with h
  · obtain ⟨-, hquiet⟩ := Bool.and_eq_true_iff.1 h
    simp [hquiet]
  · refine (s.view_eta ?_).symm
    cases hview : s.roster.view
    · rfl
    · simpa [hview] using h

/-- What a first copy does to VIEW changes VIEW alone. -/
theorem State.viewAfterStatus_eq (n : Station) : s.viewAfterStatus n = { s with roster := { s.roster with
    view := if s.roster.view then !s.viewQuiet else s.live n && 3 ≤ (s.entry n).viewRun } } := by
  unfold State.viewAfterStatus
  split_ifs with hview hrun
  · rw [State.viewClear_eq, hview, Bool.true_and]
  · rw [hrun]
  · rw [Bool.eq_false_iff.2 hrun, s.view_eta (Bool.eq_false_iff.2 hview)]

@[simp] theorem State.viewAfterStatus_entry (n m : Station) : (s.viewAfterStatus n).entry m = s.entry m := by
  rw [State.viewAfterStatus_eq]
  rfl

@[simp] theorem State.viewAfterStatus_live (n m : Station) : (s.viewAfterStatus n).live m = s.live m := by
  rw [State.live, State.viewAfterStatus_entry, State.live]

/-- While VIEW is not raised, it is raised when the sender is LIVE and its run has reached 3. -/
theorem State.viewAfterStatus_raises (n : Station) (h : s.roster.view = false) :
    (s.viewAfterStatus n).roster.view = true ↔
      (s.viewAfterStatus n).live n = true ∧ 3 ≤ ((s.viewAfterStatus n).entry n).viewRun := by
  rw [State.viewAfterStatus_live, State.viewAfterStatus_entry, State.viewAfterStatus_eq]
  simp [h]

/-- While VIEW is raised, it is cleared when every LIVE peer's run is 0. -/
theorem State.viewAfterStatus_clears (n : Station) (h : s.roster.view = true) :
    (s.viewAfterStatus n).roster.view = false ↔ ∀ m, s.isOwn m = false →
      (s.viewAfterStatus n).live m = true → ((s.viewAfterStatus n).entry m).viewRun = 0 := by
  simp only [State.viewAfterStatus_live, State.viewAfterStatus_entry]
  rw [← State.viewQuiet_iff, State.viewAfterStatus_eq]
  simp [h]

/-- What CONFLICT does at a closure leaves the own number and VIEW. -/
theorem State.conflictClosure_fields :
    s.conflictClosure.ctl = s.ctl ∧ s.conflictClosure.roster.view = s.roster.view := by
  unfold State.conflictClosure State.endConflict
  dsimp only
  split_ifs <;> exact ⟨rfl, rfl⟩

/-- A closure in RUN leaves the own number; VIEW is cleared when, with the entries of that closure, every LIVE peer's
run is 0. -/
theorem State.rosterClosure_run (h : s.ctl.mode = .run) : s.rosterClosure.ctl = s.ctl
    ∧ s.rosterClosure.roster.view = (s.roster.view && !s.rosterClosure.viewQuiet) := by
  unfold State.rosterClosure
  dsimp only
  rw [if_pos h, State.viewClear_eq]
  obtain ⟨hctl, hview⟩ := State.conflictClosure_fields { s with roster := { s.roster with
    entries := .ofFn fun n => if s.isOwn n then s.entry n else (s.entry n).closure s.ownSig } }
  exact ⟨hctl, congrArg (· && _) hview⟩

/-- The peers of the own station are the same after a closure in RUN. -/
theorem State.rosterClosure_isOwn (h : s.ctl.mode = .run) (m : Station) : s.rosterClosure.isOwn m = s.isOwn m := by
  obtain ⟨hctl, -⟩ := s.rosterClosure_run h
  rw [State.isOwn, State.own, hctl, State.isOwn, State.own]

end

/-! ### Taking a STATUS (R57, R58, R65 to R67) -/

/-- The record of a STATUS of these contents, as the station stands when it takes the frame. -/
def State.statusRecord (s : State) (p : Path) (f : Frame) (prot : ProtState) (mask : BitVec 24)
    (auth ha hb : Nat) : StatusRec where
  index := f.index
  sync := f.sync
  prot := prot
  liveMask := mask
  authority := auth
  healthA := ha
  healthB := hb
  path := p
  tick := s.clock.tick
  agrees := masksAgree f.sender s.own mask (s.onEntry f.sender fun e => e.hear s.ownSig f).roster.liveMask

/-- What a first copy of a STATUS makes of its sender's entry, with this record. -/
def Entry.takeStatus (e : Entry) (ownSig : BitVec 16) (f : Frame) (r : StatusRec) : Entry :=
  Entry.viewStep { e.hear ownSig f with lastStatus := some r, statusSeen := true } r.agrees

/-- To hear a frame leaves the last STATUS. -/
theorem Entry.hear_lastStatus (e : Entry) (ownSig : BitVec 16) (f : Frame) :
    (e.hear ownSig f).lastStatus = e.lastStatus := by
  unfold Entry.hear
  dsimp only
  split_ifs <;> rfl

/-- A frame with the own signature leaves its sender's state and view-mismatch run (R58). -/
theorem Entry.hear_own (e : Entry) {ownSig : BitVec 16} {f : Frame} (h : f.sig = ownSig) :
    (e.hear ownSig f).state = e.state ∧ (e.hear ownSig f).viewRun = e.viewRun := by
  simp [Entry.hear, h]

/-- A frame with another signature excludes its sender (R58). -/
theorem Entry.hear_other (e : Entry) {ownSig : BitVec 16} {f : Frame} (h : f.sig ≠ ownSig) :
    (e.hear ownSig f).state = .excluded ∧ (e.hear ownSig f).viewRun = 0 := by
  simp [Entry.hear, Entry.exclude, h]

/-- A saturating counter takes the next number up to its limit, from wherever it stands. -/
theorem satInc_eq_min_succ (limit n : Nat) : satInc limit n = min limit (n + 1) := by
  unfold satInc
  split <;> omega

/-- The view-mismatch run of a LIVE station is 0 on agreement and else grows by one up to 3; nothing else of the
entry moves (R67). -/
theorem Entry.viewStep_eq (e : Entry) (agrees : Bool) : e.viewStep agrees = { e with
    viewRun := if e.state = .live then if agrees then 0 else min 3 (e.viewRun + 1) else e.viewRun } := by
  unfold Entry.viewStep
  split_ifs <;> simp [satInc_eq_min_succ]

section

variable (e : Entry) (ownSig : BitVec 16) (f : Frame) (r : StatusRec)

@[simp] theorem Entry.takeStatus_lastStatus : (e.takeStatus ownSig f r).lastStatus = some r := by
  rw [Entry.takeStatus, Entry.viewStep_eq]

@[simp] theorem Entry.takeStatus_statusSeen : (e.takeStatus ownSig f r).statusSeen = true := by
  rw [Entry.takeStatus, Entry.viewStep_eq]

variable {ownSig f} in
/-- The view-mismatch run after a STATUS with the own signature (R67). -/
theorem Entry.takeStatus_viewRun_own (h : f.sig = ownSig) : (e.takeStatus ownSig f r).viewRun
    = if e.state = .live then if r.agrees then 0 else min 3 (e.viewRun + 1) else e.viewRun := by
  obtain ⟨hstate, hrun⟩ := e.hear_own h
  rw [Entry.takeStatus, Entry.viewStep_eq, ← hstate, ← hrun]

variable {ownSig f} in
/-- A STATUS with another signature leaves its sender EXCLUDED, with no view-mismatch run (R58, R67). -/
theorem Entry.takeStatus_other (h : f.sig ≠ ownSig) :
    (e.takeStatus ownSig f r).state = .excluded ∧ (e.takeStatus ownSig f r).viewRun = 0 := by
  obtain ⟨hstate, hrun⟩ := e.hear_other h
  rw [Entry.takeStatus, Entry.viewStep_eq]
  simp [hstate, hrun]

end

section

variable (s : State) (p : Path) {f : Frame} {prot : ProtState} {desc : BayDesc} {mask : BitVec 24}
  {auth ha hb : Nat}

/-- Two changes of one entry, one after the other. -/
theorem State.onEntry_onEntry (n : Station) (g k : Entry → Entry) :
    (s.onEntry n g).onEntry n k = s.onEntry n fun e => k (g e) := by
  have hentries : (s.roster.entries.modify n g).modify n k = s.roster.entries.modify n fun e => k (g e) := by
    refine Tab.ext_get fun m => ?_
    by_cases h : m = n <;> simp [h]
  simp only [State.onEntry, hentries]

/-- A first copy of a STATUS. -/
theorem State.rosterTake_status_first (hbody : f.body = .status prot desc mask auth ha hb)
    (hfirst : (s.entry f.sender).statusSecond f = false) :
    s.rosterTake p f = (s.onEntry f.sender fun e =>
      e.takeStatus s.ownSig f (s.statusRecord p f prot mask auth ha hb)).viewAfterStatus f.sender := by
  simp only [State.rosterTake, hbody, hfirst, Bool.false_eq_true, if_false, State.onEntry_onEntry]
  rfl

/-- A second copy of a STATUS. -/
theorem State.rosterTake_status_second (hbody : f.body = .status prot desc mask auth ha hb)
    (hsecond : (s.entry f.sender).statusSecond f = true) :
    s.rosterTake p f = s.onEntry f.sender fun e => e.hear s.ownSig f := by
  simp [State.rosterTake, hbody, hsecond]

/-- The sender's own bit is not compared, so agreement is with the LIVE mask as it stood before the frame. -/
theorem State.statusRecord_agrees_iff : (s.statusRecord p f prot mask auth ha hb).agrees = true ↔
    ∀ n : Station, n ≠ f.sender → s.own ≠ some n → mask.getLsbD n.val = s.live n := by
  rw [State.statusRecord, masksAgree_iff]
  refine forall_congr' fun n => forall_congr' fun hn => ?_
  rw [State.getLsbD_liveMask, State.live, State.entry_onEntry, if_neg hn, State.live]

end

/-- Settles O31. A first copy is one change of the sender's entry and then what it does to VIEW, a second copy is
the hearing of a frame alone; a closure in RUN is told by VIEW's equation. -/
theorem statusAgreement : Obligations.StatusAgreement := by
  unfold Obligations.StatusAgreement
  refine ⟨fun s p f prot desc mask auth ha hb hbody => ⟨fun hfirst => ?_, fun hsecond => ?_, fun n hn => ?_⟩,
    fun s hrun => ⟨fun hview => ?_, fun hview => ?_⟩⟩
  · have hentry : (s.rosterTake p f).entry f.sender
        = (s.entry f.sender).takeStatus s.ownSig f (s.statusRecord p f prot mask auth ha hb) := by
      simp [s.rosterTake_status_first p hbody hfirst]
    refine ⟨s.statusRecord p f prot mask auth ha hb, by simp [hentry], rfl, rfl, rfl, rfl, rfl, rfl, rfl, rfl, rfl,
      by simp [hentry], s.statusRecord_agrees_iff p, fun hlive hsig => ?_, fun hlive hsig => ?_, fun hsig => ?_,
      fun hlow => ?_, fun hraised => ?_⟩
    · rw [hentry, Entry.takeStatus_viewRun_own _ _ hsig, if_pos (beq_iff_eq.1 hlive)]
    · rw [hentry, Entry.takeStatus_viewRun_own _ _ hsig, if_neg (beq_eq_false_iff_ne.1 hlive)]
    · obtain ⟨hstate, hviewRun⟩ :=
        (s.entry f.sender).takeStatus_other (s.statusRecord p f prot mask auth ha hb) hsig
      rw [State.live, hentry, hstate, hviewRun]
      exact ⟨rfl, rfl⟩
    · rw [s.rosterTake_status_first p hbody hfirst]
      exact State.viewAfterStatus_raises _ _ hlow
    · rw [s.rosterTake_status_first p hbody hfirst]
      exact State.viewAfterStatus_clears _ _ hraised
  · rw [s.rosterTake_status_second p hbody hsecond]
    simp [Entry.hear_lastStatus]
  · cases hcopy : (s.entry f.sender).statusSecond f with
    | false => rw [s.rosterTake_status_first p hbody hcopy, State.viewAfterStatus_entry, State.entry_onEntry, if_neg hn]
    | true => rw [s.rosterTake_status_second p hbody hcopy, State.entry_onEntry, if_neg hn]
  · obtain ⟨-, hclosed⟩ := s.rosterClosure_run hrun
    rw [hclosed, hview, Bool.false_and]
  · obtain ⟨-, hclosed⟩ := s.rosterClosure_run hrun
    rw [hclosed, hview, Bool.true_and, Bool.not_eq_false', State.viewQuiet_iff]
    simp only [s.rosterClosure_isOwn hrun]

end Sys2Proof.Machine
end

section
/-! PROOFS. The Set Assembler: the final status of a slot and its contents, substitution, and what a closure leaves
of the gap runs, the marks and the own-sync flag (R83 to R88). -/

namespace Sys2Proof.Machine

/-! ### Reading a slot (R91) -/

/-- The settling reads a sound open slot as it stands. -/
theorem OpenSlot.settled_of_good {o : OpenSlot} (h : o.parityBad = false) : o.settled = o.body := by
  simp [OpenSlot.settled, h]

/-- The settling reads an open slot with a parity error as DAMAGED. -/
theorem OpenSlot.settled_of_bad {o : OpenSlot} (h : o.parityBad = true) : o.settled = .damaged := by
  simp [OpenSlot.settled, h]

/-- A slot is delivered as REAL with its contribution only when it is read without a parity error. -/
theorem ClosedSlot.deliver_real_iff (c : ClosedSlot) (x : Contribution) :
    (c.deliver.status = some .real ∧ c.deliver.contr = some x)
      ↔ c.status = some .real ∧ c.parityBad = false ∧ c.contr = some x := by
  cases h : c.parityBad <;> simp [ClosedSlot.deliver, h]

section

variable (s : State) (k : Nat) (n : Station)

/-! ### The grant of a substitution (R86) -/

/-- The set a substitution would be taken from. -/
theorem State.substSource_eq_some_iff (h : ClosedSet) : s.substSource k n = some h ↔
    s.asm.gap.get n ≤ 1 ∧ (s.asm.marks.get n).count true < 4 ∧ s.histSet (indexBefore k s.cycleN) = some h := by
  rw [State.substSource, Option.ite_none_right_eq_some, and_assoc]

/-- The index of the set one nominal cycle before set `k`. -/
theorem State.indexBefore_cycleN :
    indexBefore k s.cycleN = (k + 48000 - if s.set8 2 = 60 then 40 else 48) % 48000 := by
  unfold indexBefore State.cycleN
  split <;> rfl

/-- A substitution is granted when the source set holds a REAL slot of the station, read well. -/
theorem State.grant_eq_some_iff (src : Contribution) : s.grant k n = some src ↔
    ∃ h, s.substSource k n = some h ∧ (h.slots.get n).status = some .real
      ∧ (h.slots.get n).parityBad = false ∧ (h.slots.get n).contr = some src := by
  simp only [← ClosedSlot.deliver_real_iff]
  cases hsource : s.substSource k n with
  | none => simp [State.grant, hsource]
  | some h =>
    have hgrant : s.grant k n = if (h.read n).status = some .real then (h.read n).contr else none := by
      rw [State.grant, hsource]
    rw [hgrant, Option.ite_none_right_eq_some]
    simp [ClosedSet.read]

/-! ### The rows of the table (R83, R84) -/

/-- An eligible slot is SUBSTITUTED on a grant, and else is MISSING and keeps what it held. -/
theorem State.substitute_by_grant (b : SlotBody) :
    (s.grant k n = none → s.substitute k n b = ⟨some .missing, b.kept, false⟩)
      ∧ ∀ src, s.grant k n = some src →
        s.substitute k n b = ⟨some .substituted, some (s.substContents n b src), false⟩ := by
  refine ⟨fun hrefused => ?_, fun src hgrant => ?_⟩
  · rw [State.substitute, hrefused]
    rfl
  · rw [State.substitute, hgrant]

/-- A DAMAGED slot is MISSING and empty. -/
theorem State.settleSlot_damaged : s.settleSlot k n .damaged = ⟨some .missing, none, false⟩ := rfl

/-- A FILLED slot of acceptable sync state from a JOINING or LIVE station is REAL when its measurement is valid and
else eligible; any other FILLED slot is MISSING with its contribution. -/
theorem State.settleSlot_filled (c : Contribution) (other : Bool) : s.settleSlot k n (.filled c other) =
    if c.sync.acceptable = true ∧ ((s.entry n).state = .live ∨ (s.entry n).state = .joining) then
      if c.valid = true then ⟨some .real, some c, false⟩ else s.substitute k n (.filled c other)
    else ⟨some .missing, some c, false⟩ := by
  have heligible : s.eligible n (.filled c other) = true ↔
      (c.sync.acceptable = true ∧ ((s.entry n).state = .live ∨ (s.entry n).state = .joining)) ∧ c.valid = false := by
    simp [State.eligible, and_right_comm]
  by_cases htaken : c.sync.acceptable = true ∧ ((s.entry n).state = .live ∨ (s.entry n).state = .joining)
  · cases hvalid : c.valid <;> simp [State.settleSlot, heligible, htaken, hvalid]
  · rw [State.settleSlot, if_neg (fun h => htaken (heligible.1 h).1), if_neg htaken]
    refine if_neg fun hreal => htaken ?_
    simp only [Bool.and_eq_true, Bool.or_eq_true, beq_iff_eq] at hreal
    obtain ⟨⟨hsync, -⟩, hstate⟩ := hreal
    exact ⟨hsync, hstate⟩

/-- An EMPTY slot is eligible when the station is LIVE and, for the own station, in an acceptable sync state; else it
is MISSING and empty. -/
theorem State.settleSlot_empty : s.settleSlot k n .empty =
    if (s.entry n).state = .live ∧ (s.isOwn n = true → s.clock.sync.acceptable = true) then s.substitute k n .empty
    else ⟨some .missing, none, false⟩ := by
  have heligible : s.eligible n .empty = true ↔
      (s.entry n).state = .live ∧ (s.isOwn n = true → s.clock.sync.acceptable = true) := by
    simp [State.eligible, State.live, ← Bool.not_eq_true, imp_iff_not_or]
  simp only [State.settleSlot, heligible]
  rfl

end

/-! ### A closure of a set (R84, R85, R88) -/

section

variable (s : State) (o : OpenSet) {n : Station}

/-- The closed slot of a population station. -/
theorem State.closedSet_slot (h : s.inPop n = true) :
    (s.closedSet o).slots.get n = s.settleSlot o.index n (o.slots.get n).settled := by
  simp [State.closedSet, State.settleSlots, h]

/-- The gap run of a population station after a closure. -/
theorem State.assemblerAfter_gap (h : s.inPop n = true) : (s.assemblerAfter o).gap.get n =
    if ((s.closedSet o).slots.get n).status = some .real then 0 else min 255 (s.asm.gap.get n + 1) := by
  simp [State.assemblerAfter, h, satInc_eq_min_succ]

/-- The marks of a population station after a closure. -/
theorem State.assemblerAfter_marks (h : s.inPop n = true) : (s.assemblerAfter o).marks.get n =
    (((s.closedSet o).slots.get n).status == some .substituted) :: (s.asm.marks.get n).take 47 := by
  simp [State.assemblerAfter, h]

/-- The own-sync flag tells what the settling reads of the own slot: EMPTY in an unacceptable sync state, or FILLED
with one. -/
theorem State.closedSet_ownSync_iff (h : s.own = some n) : (s.closedSet o).ownSync = true ↔
    ((o.slots.get n).settled = .empty ∧ s.clock.sync.acceptable = false)
      ∨ ∃ x other, (o.slots.get n).settled = .filled x other ∧ x.sync.acceptable = false := by
  cases hread : (o.slots.get n).settled <;> simp [State.closedSet, State.ownSyncFlag, h, hread]

end

/-- Settles O33: the rows by the kind of the slot, the grant by its conditions, the closure by what the settling
reads of each slot. -/
theorem settlingTable : Obligations.SettlingTable := by
  unfold Obligations.SettlingTable
  refine ⟨fun s k n => ⟨s.settleSlot_damaged k n, fun c other hsync => ?_, fun c other hsync hvalid hstate => ?_,
    fun c other hlive hjoining => ?_, fun c other hsync hvalid hstate => ?_, fun hlive => ?_,
    fun hlive hown => ?_, fun hown hsync => ?_, fun _ src => ?_⟩, fun s o n hpop => ⟨fun hgood => ?_, fun hbad => ?_,
    s.assemblerAfter_gap o hpop, s.assemblerAfter_marks o hpop, fun hown => ?_⟩⟩
  · rw [State.settleSlot_filled, if_neg (by simp [hsync])]
  · rw [State.settleSlot_filled, if_pos ⟨hsync, hstate⟩, if_pos hvalid]
  · rw [State.settleSlot_filled, if_neg (by simp [hlive, hjoining])]
  · rw [State.settleSlot_filled, if_pos ⟨hsync, hstate⟩, if_neg (by simp [hvalid])]
    exact s.substitute_by_grant k n _
  · rw [State.settleSlot_empty, if_neg (by simp [hlive])]
  · rw [State.settleSlot_empty, if_pos ⟨hlive, hown⟩]
    exact s.substitute_by_grant k n _
  · rw [State.settleSlot_empty, if_neg (by simp [hown, hsync])]
  · simp only [State.grant_eq_some_iff, State.substSource_eq_some_iff, State.indexBefore_cycleN, and_assoc,
      exists_and_left]
    rfl
  · rw [s.closedSet_slot o hpop, OpenSlot.settled_of_good hgood]
  · rw [s.closedSet_slot o hpop, OpenSlot.settled_of_bad hbad]
  · rw [s.closedSet_ownSync_iff o hown]
    cases hparity : (o.slots.get n).parityBad with
    | false => simp [OpenSlot.settled_of_good hparity]
    | true => simp [OpenSlot.settled_of_bad hparity]

end Sys2Proof.Machine
end

section
/-! PROOFS. The Differential Unit: the term of a set under a member list (R119), the external-fault latch (R128,
R129), the operate condition (R126) and the operate counter with OPERATE (R131, R132). -/

namespace Sys2Proof.Machine

/-! ### Terms (R118, R119) -/

/-- Adding up phase values adds them up in each phase. -/
theorem PerPhase.get_foldr_zip_add {α β : Type} [Add β] [Zero β] (f : α → PerPhase β) (l : List α) (ph : Phase) :
    (l.foldr (fun a acc => PerPhase.zip (· + ·) (f a) acc) (.const 0)).get ph = (l.map fun a => (f a).get ph).sum := by
  induction l with
  | nil => simp
  | cons a l ih => simp [ih]

section

variable (c : ClosedSet) (ms : List Member) (ph : Phase)

/-- The differential of a phase is the magnitude of the members' signed sum (R119). -/
theorem ClosedSet.term_d_get :
    (c.term ms).d.get ph = ((ms.map fun m : Member => m.signed ((c.memberValue m).get ph)).sum).natAbs := by
  simp [ClosedSet.term, ClosedSet.sigma, PerPhase.get_foldr_zip_add]

/-- The restraint of a phase is the sum of the members' magnitudes (R119). -/
theorem ClosedSet.term_s_get :
    (c.term ms).s.get ph = (ms.map fun m => ((c.memberValue m).get ph).natAbs).sum := by
  simp [ClosedSet.term, ClosedSet.restraint, PerPhase.get_foldr_zip_add]

/-- A term is incomplete when a member's value was taken from a MISSING slot (R119). -/
theorem ClosedSet.term_incomplete_iff :
    (c.term ms).incomplete = true ↔ ∃ m ∈ ms, (c.read m.station).value = none := by
  simp [ClosedSet.term, ClosedSet.memberMissing]

/-- The sign of a member does not change the magnitude of its value. -/
@[simp] theorem Member.natAbs_signed (m : Member) (v : Int) : (m.signed v).natAbs = v.natAbs := by
  unfold Member.signed
  split
  · rfl
  · exact Int.natAbs_neg v

/-- The differential does not exceed the restraint: the triangle inequality over the members (R119). -/
theorem ClosedSet.term_d_get_le_s_get : (c.term ms).d.get ph ≤ (c.term ms).s.get ph := by
  rw [ClosedSet.term_d_get, ClosedSet.term_s_get]
  have htriangle := List.le_sum_of_subadditive Int.natAbs Int.natAbs_zero.le Int.natAbs_add_le
    (ms.map fun m => m.signed ((c.memberValue m).get ph))
  simpa [Function.comp_def] using htriangle

/-- Members whose values are at most `b` in magnitude give at most `b` times their number. -/
theorem ClosedSet.term_s_get_le {b : Nat} (h : ∀ m ∈ ms, ((c.memberValue m).get ph).natAbs ≤ b) :
    (c.term ms).s.get ph ≤ ms.length * b := by
  rw [ClosedSet.term_s_get]
  simpa using List.sum_le_card_nsmul (ms.map fun m => ((c.memberValue m).get ph).natAbs) b (by simpa using h)

end

/-- The members of the check zone all have sign +1 (R106). -/
theorem Membership.plus_of_mem_checkMembers {m : Membership} {e : Member} (h : e ∈ m.checkMembers) :
    e.plus = true := by
  obtain ⟨n, -, rfl⟩ := List.mem_map.1 h
  rfl

/-- The members of the check zone are the stations of the check list, in its order (R106). -/
theorem Membership.checkMembers_map_station (m : Membership) : m.checkMembers.map Member.station = m.check := by
  simp [Membership.checkMembers, Function.comp_def]

/-- Settles O37: the sums phase by phase, the triangle inequality, and 24 × 32,767 = 786,408. -/
theorem termOfMembers : Obligations.TermOfMembers := by
  unfold Obligations.TermOfMembers
  refine ⟨fun c ms ph => ⟨c.term_d_get ms ph, c.term_s_get ms ph, c.term_incomplete_iff ms,
    c.term_d_get_le_s_get ms ph, fun hlength hvalues => ?_⟩,
    fun _ _ => Membership.plus_of_mem_checkMembers, Membership.checkMembers_map_station⟩
  calc (c.term ms).s.get ph
    _ ≤ ms.length * 32767 := c.term_s_get_le ms ph hvalues
    _ ≤ 786408 := by omega

/-! ### The latch (R128, R129) -/

/-- A term shows evidence when in some phase the restraint reaches Iext and four times the differential does not
exceed it (R128). -/
theorem Term.evidence_iff (t : Term) (iext : Nat) : t.evidence iext = true ↔
    (iext ≤ t.s.l1 ∧ 4 * t.d.l1 ≤ t.s.l1) ∨ (iext ≤ t.s.l2 ∧ 4 * t.d.l2 ≤ t.s.l2)
      ∨ (iext ≤ t.s.l3 ∧ 4 * t.d.l3 ≤ t.s.l3) := by
  simp [Term.evidence, PerPhase.any, PerPhase.zip, or_assoc]

section

variable {t : Term} {iext : Nat} (l : Latch) (operate : Bool) (thold : Nat)

/-- An incomplete term leaves the latch as it stands. -/
theorem Latch.advance_incomplete (h : t.incomplete = true) : l.advance operate iext thold (some t) = l := if_pos h

/-- A complete term with evidence. -/
theorem Latch.advance_evidence (hcomplete : t.incomplete = false) (h : t.evidence iext = true) :
    l.advance operate iext thold (some t) = l.withEvidence operate thold := by
  simp [Latch.advance, hcomplete, h]

/-- A complete term without evidence. -/
theorem Latch.advance_noEvidence (hcomplete : t.incomplete = false) (h : t.evidence iext = false) :
    l.advance operate iext thold (some t) = l.withoutEvidence := by
  simp [Latch.advance, hcomplete, h]

end

section

variable {l : Latch} (operate : Bool) (thold : Nat)

/-- Evidence keeps a LATCHED group latched and restarts its hold counter. -/
theorem Latch.withEvidence_of_latched (h : l.latched = true) :
    l.withEvidence operate thold = ⟨min 2 (l.evidence + 1), true, thold⟩ := by
  rw [Latch.withEvidence, if_pos h, satInc_eq_min_succ]

/-- Evidence latches a group that is not LATCHED at the second term in a row, unless it is in OPERATE. -/
theorem Latch.withEvidence_of_released (h : l.latched = false) : l.withEvidence operate thold =
    if 1 ≤ l.evidence ∧ operate = false then ⟨min 2 (l.evidence + 1), true, thold⟩
    else ⟨min 2 (l.evidence + 1), false, l.hold⟩ := by
  have hsecond : min 2 (l.evidence + 1) = 2 ↔ 1 ≤ l.evidence := by omega
  simp only [Latch.withEvidence, satInc_eq_min_succ, hsecond, h]
  rfl

/-- A term without evidence counts a LATCHED group's hold counter down, and at 0 the latch ends. -/
theorem Latch.withoutEvidence_of_latched (h : l.latched = true) :
    l.withoutEvidence = ⟨0, decide (2 ≤ l.hold), l.hold - 1⟩ := by
  rw [Latch.withoutEvidence, if_pos h]
  split
  · next hlast => simp [hlast]
  · next hmore => simp [show 2 ≤ l.hold by omega]

/-- A term without evidence restarts the evidence run of a group that is not LATCHED. -/
theorem Latch.withoutEvidence_of_released (h : l.latched = false) : l.withoutEvidence = ⟨0, false, l.hold⟩ := by
  simp [Latch.withoutEvidence, h]

end

/-- Settles O38: the rows by the kind of the term and by LATCHED as it stood. -/
theorem latchTable : Obligations.LatchTable := by
  unfold Obligations.LatchTable
  refine ⟨Term.evidence_iff, fun l operate iext thold t _ => ⟨l.advance_incomplete operate thold,
    fun hcomplete hevidence => ?_, fun hcomplete hevidence => ?_⟩⟩
  · rw [l.advance_evidence operate thold hcomplete hevidence]
    cases hlatched : l.latched with
    | true => simp [Latch.withEvidence_of_latched, hlatched]
    | false =>
      rw [Latch.withEvidence_of_released operate thold hlatched]
      by_cases hlatches : 1 ≤ l.evidence ∧ operate = false <;> simp [hlatches]
  · rw [l.advance_noEvidence operate thold hcomplete hevidence]
    cases hlatched : l.latched with
    | true => simp [Latch.withoutEvidence_of_latched hlatched]
    | false => simp [Latch.withoutEvidence_of_released hlatched]

/-! ### The operate condition (R126) -/

/-- A phase meets the condition when the window is full and complete, and the phase's sums reach the minimum and the
slope (R126). -/
theorem Slot.condition_get_iff (t : Slot) (idmin w slope : Nat) (ph : Phase) :
    (t.condition idmin w slope).get ph = true ↔ t.fill = w ∧ t.incomplete = 0
      ∧ idmin * w ≤ t.sumD.get ph ∧ slope * t.sumS.get ph ≤ 64 * t.sumD.get ph := by
  unfold Slot.condition
  split
  · next hfull => simp [conditionPhase, hfull]
  · next hnot =>
    simp only [PerPhase.get_const, Bool.false_eq_true, false_iff]
    exact fun ⟨hfill, hcomplete, _⟩ => hnot ⟨hfill, hcomplete⟩

/-! ### Step 6 of R117 for one slot (R126, R131, R132) -/

section

variable (t : Slot) (idmin w nop slope : Nat)

/-- The OPERATE step moves nothing but OPERATE and the drop-off run. -/
theorem Slot.operateStep_eq (b : Bool) : ∃ operate dropOff,
    t.operateStep nop w b = { t with operate := operate, dropOff := dropOff } := by
  unfold Slot.operateStep
  repeat' split
  all_goals exact ⟨_, _, rfl⟩

/-- Step 6 for a slot that is not BLOCKED: nothing but the phases, the counter, OPERATE and the drop-off run
moves. -/
theorem Slot.evaluate_eq : ∃ operate dropOff, t.evaluate false idmin w nop slope =
    { t with
      phases := t.condition idmin w slope
      counter := if (t.condition idmin w slope).any then min nop (t.counter + 1) else 0
      operate := operate
      dropOff := dropOff } := by
  obtain ⟨operate, dropOff, hstep⟩ := Slot.operateStep_eq _ w nop _
  refine ⟨operate, dropOff, hstep.trans ?_⟩
  simp only [satInc_eq_min_succ]

/-- The counter of a slot that is not BLOCKED: one more up to Nop while some phase meets the condition (R131). -/
@[simp] theorem Slot.evaluate_counter : (t.evaluate false idmin w nop slope).counter =
    if (t.condition idmin w slope).any then min nop (t.counter + 1) else 0 := by
  obtain ⟨_, _, h⟩ := t.evaluate_eq idmin w nop slope
  rw [h]

/-- Step 6 leaves the window, and so the condition, as it stands. -/
@[simp] theorem Slot.evaluate_condition :
    (t.evaluate false idmin w nop slope).condition idmin w slope = t.condition idmin w slope := by
  obtain ⟨_, _, h⟩ := t.evaluate_eq idmin w nop slope
  rw [h]
  rfl

/-- The operated phases of a slot are those that meet the condition, and none when it is BLOCKED (R126, R134). -/
theorem Slot.evaluate_phases (blocked : Bool) : (t.evaluate blocked idmin w nop slope).phases =
    if blocked then .const false else t.condition idmin w slope := by
  cases blocked with
  | true => rfl
  | false =>
    obtain ⟨_, _, h⟩ := t.evaluate_eq idmin w nop slope
    rw [h]
    rfl

/-- A phase is operated when the slot is not BLOCKED and the phase meets the condition (R126, R134). -/
theorem Slot.evaluate_phases_get_iff (blocked : Bool) (ph : Phase) :
    (t.evaluate blocked idmin w nop slope).phases.get ph = true ↔ blocked = false ∧ t.fill = w ∧ t.incomplete = 0
      ∧ idmin * w ≤ t.sumD.get ph ∧ slope * t.sumS.get ph ≤ 64 * t.sumD.get ph := by
  rw [Slot.evaluate_phases, ← Slot.condition_get_iff]
  cases blocked <;> simp

/-- Where the sum of differentials is 0 no phase operates, since Idmin × W is above 0 (R126). -/
theorem Slot.evaluate_phases_get_of_zero {t : Slot} {idmin w : Nat} (nop slope : Nat) (blocked : Bool) {ph : Phase}
    (hidmin : 1 ≤ idmin) (hw : 1 ≤ w) (h : t.sumD.get ph = 0) :
    (t.evaluate blocked idmin w nop slope).phases.get ph = false := by
  have hpos : 0 < idmin * w := Nat.mul_pos hidmin hw
  rw [← Bool.not_eq_true, Slot.evaluate_phases_get_iff]
  rintro ⟨-, -, -, hreached, -⟩
  omega

end

section

variable {t : Slot} {idmin w nop slope : Nat}

/-- A closure with the condition sets OPERATE when it brings the counter to Nop, and never ends it (R132). -/
theorem Slot.evaluate_operate_of_condition (h : (t.condition idmin w slope).any = true) :
    (t.evaluate false idmin w nop slope).operate = (t.operate || decide (nop ≤ t.counter + 1)) := by
  by_cases hreach : nop ≤ t.counter + 1
  · simp [Slot.evaluate, Slot.operateStep, h, satInc_eq_min_succ, hreach]
  · cases hoperate : t.operate <;>
      simp [Slot.evaluate, Slot.operateStep, h, satInc_eq_min_succ, hreach, hoperate]

/-- A closure without the condition starts no OPERATE, and ends one whose drop-off run it brings to W (R132). -/
theorem Slot.evaluate_operate_of_noCondition (hnop : 1 ≤ nop) (h : (t.condition idmin w slope).any = false) :
    (t.evaluate false idmin w nop slope).operate = (t.operate && decide (t.dropOff + 1 < w)) := by
  have hcounter : (0 : Nat) ≠ nop := by omega
  cases hoperate : t.operate with
  | false => simp [Slot.evaluate, Slot.operateStep, h, hcounter, hoperate]
  | true =>
    rcases le_or_gt w (t.dropOff + 1) with hends | hstays
    · simp [Slot.evaluate, Slot.operateStep, h, hcounter, hoperate, hends]
    · simp [Slot.evaluate, Slot.operateStep, h, hcounter, hoperate, hstays, not_le.2 hstays]

/-- A closure without the condition that does not end OPERATE counts in the drop-off run (R132). -/
theorem Slot.evaluate_dropOff_of_noCondition (hnop : 1 ≤ nop) (h : (t.condition idmin w slope).any = false)
    (hoperate : t.operate = true) (hstays : t.dropOff + 1 < w) :
    (t.evaluate false idmin w nop slope).dropOff = t.dropOff + 1 := by
  have hcounter : (0 : Nat) ≠ nop := by omega
  simp [Slot.evaluate, Slot.operateStep, h, hcounter, hoperate, not_le.2 hstays]

/-- After `n` closures in a row with the condition, from a fresh count: the counter stands at `n` up to Nop, and the
slot is in OPERATE from the Nop-th on (R131, R132). -/
theorem Slot.evaluate_iterate_of_condition (hnop : 1 ≤ nop) (h : (t.condition idmin w slope).any = true)
    (hcounter : t.counter = 0) (hoperate : t.operate = false) (n : Nat) :
    ((fun x : Slot => x.evaluate false idmin w nop slope)^[n] t).condition idmin w slope = t.condition idmin w slope
      ∧ ((fun x : Slot => x.evaluate false idmin w nop slope)^[n] t).counter = min nop n
      ∧ ((fun x : Slot => x.evaluate false idmin w nop slope)^[n] t).operate = decide (nop ≤ n) := by
  induction n with
  | zero => exact ⟨rfl, hcounter.trans nop.min_zero.symm, hoperate.trans (decide_eq_false (by omega)).symm⟩
  | succ n ih =>
    rw [Function.iterate_succ_apply']
    generalize (fun x : Slot => x.evaluate false idmin w nop slope)^[n] t = u at ih ⊢
    obtain ⟨hcondition, hrun, hset⟩ := ih
    rw [← hcondition] at h
    refine ⟨by rw [Slot.evaluate_condition, hcondition], ?_, ?_⟩
    · rw [Slot.evaluate_counter, if_pos h, hrun]
      omega
    · rw [Slot.evaluate_operate_of_condition h, hrun, hset, ← Bool.decide_or]
      exact decide_eq_decide.2 (by omega)

/-- After `n` closures in a row without the condition, from OPERATE with no drop-off run: the slot is in OPERATE until
the W-th, and the drop-off run stands at `n` as long (R132). -/
theorem Slot.evaluate_iterate_of_noCondition (hnop : 1 ≤ nop) (hw : 1 ≤ w)
    (h : (t.condition idmin w slope).any = false) (hdropOff : t.dropOff = 0) (hoperate : t.operate = true) (n : Nat) :
    ((fun x : Slot => x.evaluate false idmin w nop slope)^[n] t).condition idmin w slope = t.condition idmin w slope
      ∧ ((fun x : Slot => x.evaluate false idmin w nop slope)^[n] t).operate = decide (n < w)
      ∧ (n < w → ((fun x : Slot => x.evaluate false idmin w nop slope)^[n] t).dropOff = n) := by
  induction n with
  | zero => exact ⟨rfl, hoperate.trans (decide_eq_true hw).symm, fun _ => hdropOff⟩
  | succ n ih =>
    rw [Function.iterate_succ_apply']
    generalize (fun x : Slot => x.evaluate false idmin w nop slope)^[n] t = u at ih ⊢
    obtain ⟨hcondition, hset, hrun⟩ := ih
    rw [← hcondition] at h
    refine ⟨by rw [Slot.evaluate_condition, hcondition], ?_, fun hn => ?_⟩
    · rw [Slot.evaluate_operate_of_noCondition hnop h, hset, ← Bool.decide_and]
      exact decide_eq_decide.2 (by constructor <;> omega)
    · have hbefore : n < w := by omega
      rw [Slot.evaluate_dropOff_of_noCondition hnop h (by simpa [hset] using hbefore) (by omega), hrun hbefore]

end

/-- Settles O39: one closure by the cases of R131, runs of closures by the induction on their length. -/
theorem operateRuns : Obligations.OperateRuns := by
  unfold Obligations.OperateRuns
  intro t idmin w nop slope hnop hw _
  refine ⟨⟨rfl, rfl⟩, fun hmet => ?_, fun hnone => ?_, fun hmet hcounter hoperate n _ => ?_,
    fun hnone hdropOff hoperate n => ?_, fun _ _ => rfl⟩
  · rw [Slot.evaluate_counter, if_pos hmet]
  · rw [Slot.evaluate_counter, if_neg (by simp [hnone])]
  · obtain ⟨-, hrun, hset⟩ := Slot.evaluate_iterate_of_condition hnop hmet hcounter hoperate n
    exact ⟨hset, hrun⟩
  · obtain ⟨-, hset, -⟩ := Slot.evaluate_iterate_of_noCondition hnop hw hnone hdropOff hoperate n
    exact hset

/-! ### Step 6 of R117 (R126) -/

/-- The window holds at least one term. -/
theorem State.windowW_pos (s : State) : 1 ≤ s.windowW := by
  unfold State.windowW State.cycleN
  split <;> decide

/-- Step 6 evaluates the slot of each group in use. -/
theorem State.diffEvaluate_group (s : State) {g : Zone} (h : s.replica.membership.inUse g = true) :
    s.diffEvaluate.diff.groups.get g = (s.diff.groups.get g).evaluate (s.diff.blocked (s.diff.groups.get g)) s.idmin
      s.windowW s.nop (s.slopeOf g) := by
  simp [State.diffEvaluate, h]

/-- Step 6 evaluates the check zone with the slope kc. -/
theorem State.diffEvaluate_check (s : State) : s.diffEvaluate.diff.check =
    s.diff.check.evaluate (s.diff.blocked s.diff.check) s.idmin s.windowW s.nop s.slopeKc := rfl

/-- Settles O40: step 6 evaluates each slot in use, and the phases of an evaluated slot are those of its
condition. -/
theorem operateCondition : Obligations.OperateCondition := by
  unfold Obligations.OperateCondition
  refine fun s ph => ⟨fun g hused => ?_, ?_, fun g hused hidmin hzero => ?_, fun hidmin hzero => ?_⟩
  · rw [s.diffEvaluate_group hused]
    exact Slot.evaluate_phases_get_iff ..
  · rw [s.diffEvaluate_check]
    exact Slot.evaluate_phases_get_iff ..
  · rw [s.diffEvaluate_group hused]
    exact Slot.evaluate_phases_get_of_zero _ _ _ hidmin s.windowW_pos hzero
  · rw [s.diffEvaluate_check]
    exact Slot.evaluate_phases_get_of_zero _ _ _ hidmin s.windowW_pos hzero

end Sys2Proof.Machine
end

section
/-! PROOFS. The Trip Unit: attached groups, requests and the causes with the demand (R145 to R147, R157, R158), TRIP
with the start of TIMING (R148, R152), the trip record (R150) and the trip state (R149). -/

namespace Sys2Proof.Machine

/-! ### Searches over zones and stations -/

/-- The list of zones holds every zone. -/
@[simp] theorem mem_zones (g : Zone) : g ∈ zones := by
  revert g
  decide

/-- The list of stations holds every station. -/
@[simp] theorem mem_stations (n : Station) : n ∈ stations := List.mem_finRange n

/-- A search over the zones finds the lowest one. -/
theorem zones_find?_eq_some_iff (p : Zone → Bool) (g : Zone) :
    zones.find? p = some g ↔ p g = true ∧ ∀ f < g, p f = false := by
  have hzones : zones = List.finRange 4 := rfl
  rw [hzones, ← Fin.find?_eq_find?_finRange, Fin.find?_eq_some_iff]

/-- A search over the stations finds the lowest one. -/
theorem stations_find?_eq_some_iff (p : Station → Bool) (n : Station) :
    stations.find? p = some n ↔ p n = true ∧ ∀ m < n, p m = false := by
  rw [stations, ← Fin.find?_eq_find?_finRange, Fin.find?_eq_some_iff]

section

variable (s : State) (h : Handed) (k : Nat) (n : Station)

/-! ### Causes and demand (R145 to R147) -/

/-- An attached group is in use and holds a zone of the own attachment (R145). -/
theorem State.attachedGroup_iff (g : Zone) : s.attachedGroup g = true ↔ s.replica.membership.groupOf.get g = g
    ∧ ∃ z, s.replica.ownAttachment.get z = true ∧ s.replica.membership.groupOf.get z = g := by
  simp [State.attachedGroup, Membership.attached, Membership.inUse]

/-- ZONE: the check zone and an attached group were handed in OPERATE (R145). -/
theorem State.zoneCause_iff : s.zoneCause h = true ↔
    h.check = true ∧ ∃ g, s.attachedGroup g = true ∧ h.groups.get g = true := by
  simp [State.zoneCause]

/-- A confirmed request maps to the attached groups of its zones (R146). -/
theorem State.requestMaps_iff (g : Zone) : s.requestMaps n g = true ↔ ∃ zs z, s.trip.confirmed.get n = some zs
    ∧ zs.get z = true ∧ s.replica.membership.groupOf.get z = g ∧ s.attachedGroup g = true := by
  cases hconfirmed : s.trip.confirmed.get n with
  | none => simp [State.requestMaps, hconfirmed]
  | some zs => simp [State.requestMaps, hconfirmed, ← and_assoc, and_comm]

/-- A requesting station is a peer with a confirmed request for a zone of an attached group (R146). -/
theorem State.requesting_iff : s.requesting n = true ↔ s.isPeer n = true ∧ ∃ zs z, s.trip.confirmed.get n = some zs
    ∧ zs.get z = true ∧ s.attachedGroup (s.replica.membership.groupOf.get z) = true := by
  simp only [State.requesting, Bool.and_eq_true, List.any_eq_true, mem_zones, true_and, State.requestMaps_iff]
  refine and_congr_right fun _ => ⟨?_, ?_⟩
  · rintro ⟨_, zs, z, hconfirmed, hzone, rfl, hattached⟩
    exact ⟨zs, z, hconfirmed, hzone, hattached⟩
  · rintro ⟨zs, z, hconfirmed, hzone, hattached⟩
    exact ⟨_, zs, z, hconfirmed, hzone, rfl, hattached⟩

/-- A peer is a station of the population other than the own one. -/
theorem State.isPeer_iff : s.isPeer n = true ↔ s.inPop n = true ∧ s.isOwn n = false := by
  simp [State.isPeer]

/-- INTERTRIP: a peer's confirmed request maps to an attached group (R146). -/
theorem State.tripCauses_intertrip_iff : (s.tripCauses h).causes.intertrip = true ↔ ∃ n zs z, s.inPop n = true
    ∧ s.isOwn n = false ∧ s.trip.confirmed.get n = some zs ∧ zs.get z = true
    ∧ s.attachedGroup (s.replica.membership.groupOf.get z) = true := by
  have hany : (s.tripCauses h).causes.intertrip = stations.any s.requesting := rfl
  simp only [hany, List.any_eq_true, mem_stations, true_and, State.requesting_iff, State.isPeer_iff, and_assoc,
    exists_and_left]

/-- The demand: a cause is present and BLOCK IN is INACTIVE (R147). -/
theorem State.tripCauses_demand_iff : (s.tripCauses h).demand = true ↔
    ((s.tripCauses h).causes.zone = true ∨ (s.tripCauses h).causes.intertrip = true
      ∨ (s.tripCauses h).causes.retrip = true) ∧ s.bay.blockIn.active = false := by
  simp [State.tripCauses, Causes.any, or_assoc]

/-! ### Confirmation of peers' requests (R157, R158) -/

/-- The index of the set before set `k`. -/
theorem indexBefore_one : indexBefore k 1 = (k + 47999) % 48000 := by
  unfold indexBefore Config.indexCount
  rfl

/-- What the slot before carried counts while the history holds that set (R157). -/
theorem State.previousCarried_eq : s.previousCarried k n =
    if s.asm.history.any (fun c => c.index == (k + 47999) % 48000) then s.trip.carried.get n else .unusable := by
  rw [State.previousCarried, State.histSet, List.isSome_find?, indexBefore_one]

/-- A slot that offers nothing carries nothing usable (R157). -/
theorem State.carriedAt_of_none (hnone : s.usableAt k n = none) : s.carriedAt k n = .unusable := by
  rw [State.carriedAt, hnone]

/-- A usable slot without a request (R157). -/
theorem State.carriedAt_of_noRequest {c : Contribution} (husable : s.usableAt k n = some c)
    (hrequest : c.bay.bf = none) : s.carriedAt k n = .absent := by
  simp [State.carriedAt, husable, hrequest]

/-- A usable slot with a request carries its zone set (R157). -/
theorem State.carriedAt_of_request {c : Contribution} (husable : s.usableAt k n = some c) {z : ZoneSet}
    (hrequest : c.bay.bf = some z) : s.carriedAt k n = .zones z := by
  simp [State.carriedAt, husable, hrequest]

/-- A slot is delivered as REAL when it is one and reads without a parity error (R91). -/
theorem ClosedSlot.deliver_status_real_iff (c : ClosedSlot) :
    c.deliver.status = some .real ↔ c.parityBad = false ∧ c.status = some .real := by
  cases hparity : c.parityBad <;> simp [ClosedSlot.deliver, hparity]

/-- The peer's slot in set `k` of the history is REAL and reads well (R158). -/
theorem State.realAt_iff : s.realAt k n = true ↔ ∃ c, s.histSet k = some c
    ∧ (c.slots.get n).parityBad = false ∧ (c.slots.get n).status = some .real := by
  cases hset : s.histSet k with
  | none => simp [State.realAt, hset]
  | some c => simp [State.realAt, hset, ClosedSet.read, ClosedSlot.deliver_status_real_iff]

/-- What step 2 leaves of a peer (R157, R158). -/
theorem State.tripRequests_peer (hpeer : s.isPeer n = true) :
    (s.tripRequests k).carried.get n = s.carriedAt k n
      ∧ (s.tripRequests k).confirmed.get n = s.confirmRequest k n := by
  simp [State.tripRequests, hpeer]

/-- Step 2 leaves every other station as it was. -/
theorem State.tripRequests_other (hpeer : s.isPeer n = false) :
    (s.tripRequests k).confirmed.get n = s.trip.confirmed.get n
      ∧ (s.tripRequests k).carried.get n = s.trip.carried.get n := by
  simp [State.tripRequests, hpeer]

/-- A peer that is not LIVE has no confirmed request (R158). -/
theorem State.confirmRequest_notLive (hlive : s.live n = false) : s.confirmRequest k n = none := by
  simp [State.confirmRequest, hlive]

/-- A LIVE peer confirms the zone set it carries two sets running (R157). -/
theorem State.confirmRequest_zones (hlive : s.live n = true) {z : ZoneSet} (hnow : s.carriedAt k n = .zones z) :
    s.confirmRequest k n = if s.previousCarried k n = .zones z then some z else s.trip.confirmed.get n := by
  simp [State.confirmRequest, hlive, hnow]

/-- A slot without usable contents keeps the confirmed request (R158). -/
theorem State.confirmRequest_unusable (hlive : s.live n = true) (hnow : s.carriedAt k n = .unusable) :
    s.confirmRequest k n = s.trip.confirmed.get n := by
  simp [State.confirmRequest, hlive, hnow]

/-- A REAL slot without a request clears the confirmed one (R158). -/
theorem State.confirmRequest_absent (hlive : s.live n = true) (hnow : s.carriedAt k n = .absent) :
    s.confirmRequest k n = if s.realAt k n then none else s.trip.confirmed.get n := by
  simp [State.confirmRequest, hlive, hnow]

end

/-! ### The trip state (R149) -/

section

variable (c : Causes)

/-- RETRIP comes first (R149). -/
theorem Causes.first_retrip (hretrip : c.retrip = true) : c.first = .retrip := if_pos hretrip

/-- INTERTRIP comes before ZONE (R149). -/
theorem Causes.first_intertrip (hretrip : c.retrip = false) (hintertrip : c.intertrip = true) :
    c.first = .intertrip := by
  simp [Causes.first, hretrip, hintertrip]

/-- ZONE comes last (R149). -/
theorem Causes.first_zone (hretrip : c.retrip = false) (hintertrip : c.intertrip = false) (hzone : c.zone = true) :
    c.first = .zone := by
  simp [Causes.first, hretrip, hintertrip, hzone]

end

section

variable {t : Trip} {test : Bool}

/-- The trip state is NONE while the output is deasserted. -/
theorem Trip.setState_deasserted (hout : t.asserted test = false) : t.setState test = { t with state := .none } := by
  simp [Trip.setState, hout]

/-- With a demand the trip state is the first cause, which becomes the last demand cause. -/
theorem Trip.setState_demand (hout : t.asserted test = true) (hdemand : t.demand = true) :
    t.setState test = { t with state := t.causes.first, lastCause := t.causes.first } := by
  simp [Trip.setState, hout, hdemand]

/-- Without a demand the trip state is the last demand cause. -/
theorem Trip.setState_noDemand (hout : t.asserted test = true) (hdemand : t.demand = false) :
    t.setState test = { t with state := t.lastCause } := by
  simp [Trip.setState, hout, hdemand]

end

/-- Settles O44: the branches of step 7, the causes by the searches of step 4, and the branches of step 2. -/
theorem tripStateTable : Obligations.TripStateTable := by
  unfold Obligations.TripStateTable
  refine ⟨fun t => ⟨fun hout => ?_, fun hout hdemand => ?_, fun hout hdemand => ?_⟩, by decide, ?_, ?_⟩
  · rw [Trip.setState_deasserted (test := false) hout]
  · rw [Trip.setState_demand (test := false) hout hdemand]
    exact ⟨t.causes.first_retrip, t.causes.first_intertrip, t.causes.first_zone, rfl⟩
  · rw [Trip.setState_noDemand (test := false) hout hdemand]
    exact ⟨rfl, rfl⟩
  · intro s h t m attached
    have hattached : ∀ g, s.attachedGroup g = true ↔ attached g := s.attachedGroup_iff
    refine ⟨hattached, ?_, ?_, beq_iff_eq, s.tripCauses_demand_iff h, rfl⟩
    · simp only [← hattached]
      exact s.zoneCause_iff h
    · simp only [← hattached]
      exact s.tripCauses_intertrip_iff h
  · intro s k n _ t now before
    have hbefore : s.previousCarried k n = before := s.previousCarried_eq k n
    refine ⟨s.carriedAt_of_none k n, fun c husable => ⟨s.carriedAt_of_noRequest k n husable,
      fun _ => s.carriedAt_of_request k n husable⟩, s.tripRequests_other k n, fun hpeer => ?_, s.realAt_iff k n⟩
    obtain ⟨hcarried, hconfirmed⟩ := s.tripRequests_peer k n hpeer
    have hrequest : t.confirmed.get n = s.confirmRequest k n := hconfirmed
    rw [hrequest, ← hbefore]
    exact ⟨hcarried, s.confirmRequest_notLive k n, fun hlive => ⟨fun _ => s.confirmRequest_zones k n hlive,
      s.confirmRequest_unusable k n hlive, s.confirmRequest_absent k n hlive⟩⟩

/-! ### TRIP and the test trip (R148, R152) -/

section

variable {t : Trip} {test : Bool} (tbf : Nat)

/-- An assertion in RUN for a fault starts TIMING from IDLE (R152). -/
theorem Trip.startTiming_of_fault (hbf : t.bf = .idle) (hfault : (t.causes.zone || t.causes.intertrip) = true) :
    t.startTiming false tbf = { t with bf := .timing, bfTimer := tbf } := by
  exact if_pos (by simp only [hfault, hbf]; rfl)

/-- Outside IDLE, without a fault and in TEST no TIMING starts (R152, R161). -/
theorem Trip.startTiming_otherwise
    (h : test = true ∨ t.bf ≠ .idle ∨ (t.causes.zone || t.causes.intertrip) = false) : t.startTiming test tbf = t := by
  refine if_neg ?_
  rcases h with htest | hbf | hfault
  · simp [htest]
  · simp [hbf]
  · simp [hfault]

end

section

variable {s : State} (h : Handed) {test : Bool} (k : Nat)

/-- Without a demand a deasserted output stays as it is. -/
theorem State.tripOutput_quiet (hout : s.trip.asserted test = false) (hdemand : s.trip.demand = false) :
    s.tripOutput h test k = s.trip := by
  simp [State.tripOutput, hout, hdemand]

/-- A demand asserts the output, loads the minimum time and writes the record; step 6 follows (R148, R150). -/
theorem State.tripOutput_asserts (hout : s.trip.asserted test = false) (hdemand : s.trip.demand = true) :
    s.tripOutput h test k = ({ s.trip.drive test true with
      minTime := s.tmin, record := some (s.recordOf h test k) }).startTiming test s.tbf := by
  simp [State.tripOutput, hout, hdemand]

/-- In RUN an assertion for a fault also starts TIMING from IDLE (R152). -/
theorem State.tripOutput_starts (hout : s.trip.output = false) (hdemand : s.trip.demand = true)
    (hbf : s.trip.bf = .idle) (hfault : (s.trip.causes.zone || s.trip.causes.intertrip) = true) :
    s.tripOutput h false k = { s.trip with
      output := true, minTime := s.tmin, record := some (s.recordOf h false k), bf := .timing, bfTimer := s.tbf } :=
  (s.tripOutput_asserts (test := false) h k hout hdemand).trans (Trip.startTiming_of_fault s.tbf hbf hfault)

/-- In RUN any other assertion leaves breaker failure as it stands (R152). -/
theorem State.tripOutput_startsNot (hout : s.trip.output = false) (hdemand : s.trip.demand = true)
    (hno : s.trip.bf ≠ .idle ∨ (s.trip.causes.zone || s.trip.causes.intertrip) = false) :
    s.tripOutput h false k = { s.trip with
      output := true, minTime := s.tmin, record := some (s.recordOf h false k) } :=
  (s.tripOutput_asserts (test := false) h k hout hdemand).trans (Trip.startTiming_otherwise s.tbf (.inr hno))

/-- In TEST an assertion of the test trip starts no TIMING (R161). -/
theorem State.tripOutput_test (hout : s.trip.testTrip = false) (hdemand : s.trip.demand = true) :
    s.tripOutput h true k = { s.trip with
      testTrip := true, minTime := s.tmin, record := some (s.recordOf h true k) } :=
  (s.tripOutput_asserts (test := true) h k hout hdemand).trans (Trip.startTiming_otherwise s.tbf (.inl rfl))

/-- An asserted output is held while there is a demand or the counter does not come down to 0 (R148). -/
theorem State.tripOutput_holds (hout : s.trip.asserted test = true)
    (hheld : ¬(s.trip.demand = false ∧ s.trip.minTime ≤ 1)) :
    s.tripOutput h test k = { s.trip with minTime := s.trip.minTime - 1 } := by
  have hkeep : ¬(s.trip.demand = false ∧ s.trip.minTime - 1 = 0) :=
    fun ⟨hdemand, hleft⟩ => hheld ⟨hdemand, by omega⟩
  simp only [State.tripOutput, hout, Bool.not_true, Bool.false_eq_true, if_false, Bool.and_eq_true, Bool.not_eq_true',
    beq_iff_eq, if_neg hkeep]

/-- An asserted output ends without a demand when the counter comes down to 0 (R148). -/
theorem State.tripOutput_ends (hout : s.trip.asserted test = true)
    (hends : s.trip.demand = false ∧ s.trip.minTime ≤ 1) :
    s.tripOutput h test k = { s.trip.drive test false with minTime := 0 } := by
  obtain ⟨hdemand, hlast⟩ := hends
  have hleft : s.trip.minTime - 1 = 0 := by omega
  simp [State.tripOutput, hout, hdemand, hleft]

/-- Step 5 of RUN at a closure that finds the Trip Unit at `t`. -/
def State.outputStep (s : State) (h : Handed) (k : Nat) (t : Trip) : Trip :=
  ({ s with trip := t } : State).tripOutput h false k

/-- After `n` closures without a demand the counter of an asserted TRIP is down by `n`, and TRIP is held while it is
above 0. -/
theorem State.outputStep_iterate {t : Trip} (s : State) (hout : t.output = true) (hdemand : t.demand = false)
    (hmin : 1 ≤ t.minTime) (n : Nat) :
    (s.outputStep h k)^[n] t = { t with minTime := t.minTime - n, output := decide (n < t.minTime) } := by
  induction n with
  | zero =>
    have hzero : decide (0 < t.minTime) = t.output := by rw [hout]; exact decide_eq_true hmin
    rw [hzero]
    rfl
  | succ n ih =>
    rw [Function.iterate_succ_apply', ih, State.outputStep]
    rcases lt_trichotomy (n + 1) t.minTime with hheld | hlast | hended
    · rw [State.tripOutput_holds (test := false) h k (by exact decide_eq_true (by omega)) (by simp only; omega)]
      simp only [Trip.mk.injEq, decide_eq_decide, true_and, and_true]
      omega
    · rw [State.tripOutput_ends (test := false) h k (by exact decide_eq_true (by omega)) ⟨hdemand, by simp only; omega⟩]
      simp [Trip.drive, ← hlast]
    · rw [State.tripOutput_quiet (test := false) h k (by exact decide_eq_false (by omega)) hdemand]
      simp only [Trip.mk.injEq, decide_eq_decide, true_and, and_true]
      omega

end

/-! ### The trip record (R150) -/

section

variable {s : State} (h : Handed)

/-- With the cause ZONE the recorded group is the lowest attached one in OPERATE. -/
theorem State.recordGroup_zone (hzone : s.trip.causes.zone = true) (g : Zone) : s.recordGroup h = some g ↔
    (s.attachedGroup g = true ∧ h.groups.get g = true)
      ∧ ∀ f < g, ¬(s.attachedGroup f = true ∧ h.groups.get f = true) := by
  rw [State.recordGroup, if_pos hzone, zones_find?_eq_some_iff]
  simp only [← Bool.and_eq_true, Bool.not_eq_true]

/-- With INTERTRIP and no ZONE the recorded group is the lowest one that a peer's request maps to. -/
theorem State.recordGroup_intertrip (hzone : s.trip.causes.zone = false) (hintertrip : s.trip.causes.intertrip = true)
    (g : Zone) : s.recordGroup h = some g ↔ (∃ n, s.isPeer n = true ∧ s.requestMaps n g = true)
      ∧ ∀ f < g, ¬∃ n, s.isPeer n = true ∧ s.requestMaps n f = true := by
  have hmaps : ∀ f, (∃ n, s.isPeer n = true ∧ s.requestMaps n f = true) ↔
      (stations.any fun n => s.isPeer n && s.requestMaps n f) = true := by
    simp
  rw [State.recordGroup, if_neg (by simp [hzone]), if_pos hintertrip, zones_find?_eq_some_iff]
  simp only [hmaps, Bool.not_eq_true]

/-- With neither of the two no group is recorded. -/
theorem State.recordGroup_none (hzone : s.trip.causes.zone = false) (hintertrip : s.trip.causes.intertrip = false) :
    s.recordGroup h = none := by
  simp [State.recordGroup, hzone, hintertrip]

variable (test : Bool) (k : Nat)

/-- The record holds the phases handed for the recorded group. -/
theorem State.recordOf_groupPhases {g : Zone} (hgroup : s.recordGroup h = some g) :
    (s.recordOf h test k).groupPhases = h.groupPhases.get g := by
  simp [State.recordOf, hgroup]

/-- Without a recorded group the record holds no phases of one. -/
theorem State.recordOf_groupPhases_none (hgroup : s.recordGroup h = none) :
    (s.recordOf h test k).groupPhases = .const false := by
  simp [State.recordOf, hgroup]

/-- Without INTERTRIP the record names no requesting station. -/
theorem State.recordOf_requester_none (hintertrip : s.trip.causes.intertrip = false) :
    (s.recordOf h test k).requester = 0 := by
  simp [State.recordOf, hintertrip]

/-- With INTERTRIP the record holds the number of the lowest requesting station. -/
theorem State.recordOf_requester (hintertrip : s.trip.causes.intertrip = true) (n : Station)
    (hrequesting : s.requesting n = true) (hlowest : ∀ m < n, s.requesting m = false) :
    (s.recordOf h test k).requester = n.val + 1 := by
  have hfound : stations.find? s.requesting = some n := (stations_find?_eq_some_iff _ n).2 ⟨hrequesting, hlowest⟩
  simp [State.recordOf, hintertrip, hfound]

end

/-- Settles O43: the rows of step 5 for TRIP and for the test trip, the hold by induction on the closures, and the
record by the searches that name its group and its requester. -/
theorem tripOutputTable : Obligations.TripOutputTable := by
  unfold Obligations.TripOutputTable
  intro s h k
  refine ⟨s.tripOutput_quiet (test := false) h k, fun hout hdemand => ?_,
    fun hout hdemand => s.tripOutput_holds (test := false) h k hout (by simp [hdemand]),
    fun hout hdemand => ⟨fun htwo => s.tripOutput_holds (test := false) h k hout (by omega),
      fun hlast => s.tripOutput_ends (test := false) h k hout ⟨hdemand, hlast⟩⟩,
    fun hout hdemand hmin n => ?_, fun test => ?_, s.tripOutput_test h k, s.tripOutput_quiet (test := true) h k,
    fun hout => ?_⟩
  · by_cases hstart : s.trip.bf = .idle ∧ (s.trip.causes.zone || s.trip.causes.intertrip) = true
    · rw [s.tripOutput_starts h k hout hdemand hstart.1 hstart.2]
      exact ⟨rfl, rfl, rfl, fun _ _ => ⟨rfl, rfl⟩, fun hno => absurd hstart (by simpa [or_iff_not_imp_left] using hno)⟩
    · rw [s.tripOutput_startsNot h k hout hdemand (by simpa [or_iff_not_imp_left] using hstart)]
      exact ⟨rfl, rfl, rfl, fun hbf hfault => absurd ⟨hbf, hfault⟩ hstart, fun _ => ⟨rfl, rfl⟩⟩
  · exact congrArg Trip.output (s.outputStep_iterate h k hout hdemand hmin n)
  · exact ⟨rfl, rfl, rfl, rfl, rfl, s.trip.causes.first_retrip, s.trip.causes.first_intertrip,
      fun hretrip hintertrip => s.trip.causes.first_zone hretrip hintertrip, State.recordGroup_zone h,
      State.recordGroup_intertrip h, State.recordGroup_none h, fun _ => State.recordOf_groupPhases h test k,
      State.recordOf_groupPhases_none h test k, State.recordOf_requester_none h test k,
      State.recordOf_requester h test k⟩
  · split
    · next hends => exact s.tripOutput_ends (test := true) h k hout hends
    · next hheld => exact s.tripOutput_holds (test := true) h k hout hheld

end Sys2Proof.Machine
end

section
/-! PROOFS. The units that the invariants are about, each by itself: windows as the totals of their terms (R120 to
R122, R125), block reasons and OPERATE (R134), path states with their counts and lines (R52), and the clock's index
and trim (R18, R33). For each operation of a unit, what it keeps of the unit's invariant. -/

namespace Sys2Proof.Machine

/-! ### Windows (R120 to R122) -/

/-- The total of a phase is the sum over the terms. -/
theorem ringTotal_get (f : Term → PerPhase Nat) (ring : List Term) (ph : Phase) :
    (ringTotal f ring).get ph = (ring.map fun t => (f t).get ph).sum :=
  PerPhase.get_foldr_zip_add f ring ph

theorem ringTotal_append (f : Term → PerPhase Nat) (ring : List Term) (e : Term) :
    ringTotal f (ring ++ [e]) = PerPhase.zip (· + ·) (ringTotal f ring) (f e) := by
  refine PerPhase.ext_get fun ph => ?_
  simp [ringTotal_get]

/-- Removing the oldest term takes its values off the total. -/
theorem ringTotal_tail (f : Term → PerPhase Nat) (e : Term) (ring : List Term) :
    PerPhase.zip (· - ·) (ringTotal f (e :: ring)) (f e) = ringTotal f ring := by
  refine PerPhase.ext_get fun ph => ?_
  simp [ringTotal_get]

theorem Term.bounded_iff (t : Term) : t.Bounded ↔ ∀ ph, t.d.get ph ≤ t.s.get ph :=
  ⟨fun ⟨h1, h2, h3⟩ ph => by cases ph <;> assumption, fun h => ⟨h .l1, h .l2, h .l3⟩⟩

/-- The differential of a closed set's term does not exceed its restraint (R119). -/
theorem ClosedSet.term_bounded (c : ClosedSet) (ms : List Member) : (c.term ms).Bounded :=
  (Term.bounded_iff _).2 fun ph => c.term_d_get_le_s_get ms ph

theorem ringTotal_d_le_s {ring : List Term} (h : ∀ e ∈ ring, e.Bounded) (ph : Phase) :
    (ringTotal Term.d ring).get ph ≤ (ringTotal Term.s ring).get ph := by
  rw [ringTotal_get, ringTotal_get]
  exact List.sum_le_sum fun e he => (Term.bounded_iff e).1 (h e he) ph

/-- A window is safe when its terms are bounded and its sums and counts are those that its ring gives. -/
theorem Slot.windowSafe_iff (t : Slot) : t.WindowSafe ↔ (∀ e ∈ t.ring, e.Bounded) ∧ t.withRing t.ring = t := by
  constructor
  · rintro ⟨hbounded, hd, hs, hfill, hincomplete, -⟩
    exact ⟨hbounded, by simp only [Slot.withRing, ← hd, ← hs, ← hfill, ← hincomplete]⟩
  · rintro ⟨hbounded, hring⟩
    rw [← hring]
    exact ⟨hbounded, rfl, rfl, rfl, rfl, ringTotal_d_le_s hbounded .l1, ringTotal_d_le_s hbounded .l2,
      ringTotal_d_le_s hbounded .l3⟩

theorem Slot.withRing_windowSafe (t : Slot) {ring : List Term} (h : ∀ e ∈ ring, e.Bounded) :
    (t.withRing ring).WindowSafe :=
  (Slot.windowSafe_iff _).2 ⟨h, rfl⟩

theorem Slot.initial_windowSafe : Slot.initial.WindowSafe :=
  Slot.initial.withRing_windowSafe (ring := []) (by simp)

theorem Slot.clearWindow_windowSafe (t : Slot) : t.clearWindow.WindowSafe :=
  t.unoperate.withRing_windowSafe (ring := []) (by simp)

theorem Slot.withRing_append (t : Slot) (ring : List Term) (e : Term) :
    (t.withRing ring).append e = t.withRing (ring ++ [e]) := by
  cases h : e.incomplete <;>
    simp [Slot.append, Slot.withRing, ringTotal_append, List.countP_append, h]

theorem Slot.withRing_dropOldest (t : Slot) (e : Term) (ring : List Term) :
    (t.withRing (e :: ring)).dropOldest = t.withRing ring := by
  cases h : e.incomplete <;>
    simp [Slot.dropOldest, Slot.withRing, ringTotal_tail, h]

theorem Slot.append_windowSafe {t : Slot} {e : Term} (h : t.WindowSafe) (he : e.Bounded) :
    (t.append e).WindowSafe := by
  obtain ⟨hbounded, hring⟩ := t.windowSafe_iff.1 h
  rw [← hring, Slot.withRing_append]
  refine t.withRing_windowSafe fun x hx => ?_
  rcases List.mem_append.1 hx with hx | hx
  · exact hbounded x hx
  · rwa [List.mem_singleton.1 hx]

theorem Slot.dropOldest_windowSafe {t : Slot} (h : t.WindowSafe) : t.dropOldest.WindowSafe := by
  obtain ⟨hbounded, hring⟩ := t.windowSafe_iff.1 h
  cases hcases : t.ring with
  | nil => rwa [Slot.dropOldest, hcases]
  | cons e rest =>
    rw [← hring, hcases, Slot.withRing_dropOldest]
    exact t.withRing_windowSafe fun x hx => hbounded x (hcases ▸ List.mem_cons_of_mem e hx)

theorem State.rebuiltRing_bounded (s : State) (ms : List Member) : ∀ e ∈ s.rebuiltRing ms, e.Bounded := by
  intro e he
  obtain ⟨c, -, rfl⟩ := List.mem_map.1 he
  exact c.term_bounded ms

theorem State.rebuild_windowSafe (s : State) (t : Slot) (ms : List Member) : (s.rebuild t ms).WindowSafe :=
  t.unoperate.withRing_windowSafe (s.rebuiltRing_bounded ms)

/-- The update of a safe window: rebuilt, or its newest term appended, the oldest of W dropped (R121, R125). -/
theorem State.update_windowSafe (s : State) {t : Slot} (h : t.WindowSafe) (ms : List Member) (c : ClosedSet) :
    (s.update t ms c).WindowSafe := by
  unfold State.update
  split_ifs
  · exact t.withRing_windowSafe (s.rebuiltRing_bounded ms)
  · exact Slot.append_windowSafe (Slot.dropOldest_windowSafe h) (c.term_bounded ms)
  · exact Slot.append_windowSafe h (c.term_bounded ms)

/-- A window stands on its ring, sums and counts alone. -/
theorem Slot.WindowSafe.of_eq {t u : Slot} (h : t.WindowSafe) (hring : u.ring = t.ring) (hd : u.sumD = t.sumD)
    (hs : u.sumS = t.sumS) (hfill : u.fill = t.fill) (hincomplete : u.incomplete = t.incomplete) : u.WindowSafe := by
  unfold Slot.WindowSafe at h ⊢
  rwa [hring, hd, hs, hfill, hincomplete]

theorem Slot.evaluate_windowSafe {t : Slot} (h : t.WindowSafe) (blocked : Bool) (idmin w nop slope : Nat) :
    (t.evaluate blocked idmin w nop slope).WindowSafe := by
  cases blocked with
  | true => exact h.of_eq rfl rfl rfl rfl rfl
  | false =>
    obtain ⟨operate, dropOff, heq⟩ := t.evaluate_eq idmin w nop slope
    rw [heq]
    exact h.of_eq rfl rfl rfl rfl rfl

/-! ### Block reasons and OPERATE (R134) -/

/-- What a change of a slot keeps in a unit with these unit-wide reasons: a safe window, and no OPERATE while
BLOCKED. -/
structure Slot.Keeps (d : Diff) (t u : Slot) : Prop where
  block : (d.blocked t = true → t.operate = false) → d.blocked u = true → u.operate = false
  window : t.WindowSafe → u.WindowSafe

/-- What a change of the Differential Unit keeps. -/
structure Diff.Keeps (d e : Diff) : Prop where
  block : d.BlockSafe → e.BlockSafe
  windows : d.WindowsSafe → e.WindowsSafe

theorem Diff.Keeps.refl (d : Diff) : d.Keeps d := ⟨id, id⟩

theorem Diff.Keeps.trans {d e f : Diff} (h1 : d.Keeps e) (h2 : e.Keeps f) : d.Keeps f :=
  ⟨h2.block ∘ h1.block, h2.windows ∘ h1.windows⟩

/-- A change slot by slot that adds no unit-wide reason. -/
theorem Diff.keeps_of_slots {d e : Diff} (hunit : e.unitWide = true → d.unitWide = true)
    (hgroups : ∀ g, Slot.Keeps d (d.groups.get g) (e.groups.get g)) (hcheck : Slot.Keeps d d.check e.check) :
    d.Keeps e := by
  have hblocked (t : Slot) (h : e.blocked t = true) : d.blocked t = true := by
    unfold Diff.blocked at h ⊢
    cases hw : e.unitWide
    · simp only [hw, Bool.false_or] at h
      simp only [Bool.or_assoc] at h ⊢
      simp [h]
    · simp [hunit hw]
  exact ⟨fun ⟨hg, hc⟩ =>
      ⟨fun g hb => (hgroups g).block (hg g) (hblocked _ hb), fun hb => hcheck.block hc (hblocked _ hb)⟩,
    fun ⟨hg, hc⟩ => ⟨fun g => (hgroups g).window (hg g), hcheck.window hc⟩⟩

/-- A slot that a change leaves out of OPERATE. -/
theorem Slot.keeps_of_notOperate (d : Diff) {t u : Slot} (hoperate : u.operate = false)
    (hwindow : t.WindowSafe → u.WindowSafe) : Slot.Keeps d t u :=
  ⟨fun _ _ => hoperate, hwindow⟩

/-- A slot whose OPERATE and block reasons a change leaves as they were. -/
theorem Slot.keeps_of_same (d : Diff) {t u : Slot} (hblocked : d.blocked u = d.blocked t)
    (hoperate : u.operate = t.operate) (hwindow : t.WindowSafe → u.WindowSafe) : Slot.Keeps d t u :=
  ⟨fun h hb => hoperate.trans (h (hblocked ▸ hb)), hwindow⟩

theorem Slot.Keeps.refl (d : Diff) (t : Slot) : Slot.Keeps d t t := ⟨id, id⟩

/-- A change of reasons keeps the unit's invariants when it moves no OPERATE: what it blocks leaves OPERATE. -/
theorem Diff.reblock_keeps {d e : Diff} (hgroups : ∀ g, (e.groups.get g).operate = (d.groups.get g).operate)
    (hcheck : e.check.operate = d.check.operate) (hwindows : d.WindowsSafe → e.WindowsSafe) :
    d.Keeps (Diff.reblock d e) := by
  constructor
  · rintro ⟨hg, hc⟩
    constructor
    · intro g hb
      rw [Diff.reblock_blocked] at hb
      rw [Diff.reblock_operate, hb, hgroups]
      cases hbefore : d.blocked (d.groups.get g)
      · simp
      · simp [hg g hbefore]
    · intro hb
      rw [Diff.reblock_checkBlocked] at hb
      rw [Diff.reblock_checkOperate, hb, hcheck]
      cases hbefore : d.blocked d.check
      · simp
      · simp [hc hbefore]
  · intro h
    obtain ⟨hg, hc⟩ := hwindows h
    constructor
    · intro g
      simp only [Diff.reblock, Tab.get_ofFn]
      split
      · exact (hg g).of_eq rfl rfl rfl rfl rfl
      · exact hg g
    · simp only [Diff.reblock]
      split
      · exact hc.of_eq rfl rfl rfl rfl rfl
      · exact hc

theorem Diff.addConflict_keeps (d : Diff) : d.Keeps d.addConflict := Diff.reblock_keeps (fun _ => rfl) rfl id

theorem Diff.addFault_keeps (d : Diff) : d.Keeps d.addFault := Diff.reblock_keeps (fun _ => rfl) rfl id

theorem Diff.dropConflict_keeps (d : Diff) : d.Keeps d.dropConflict := by
  refine Diff.keeps_of_slots (fun h => ?_) (fun g => .refl d _) (.refl d _)
  simp only [Diff.unitWide, Diff.dropConflict, Bool.or_false] at h
  rw [Diff.unitWide, Bool.or_right_comm, h, Bool.true_or]

/-- Empty windows out of OPERATE, whatever the unit-wide reasons. -/
theorem Diff.keeps_initialSlots (d : Diff) {e : Diff} (hgroups : ∀ g, e.groups.get g = Slot.initial)
    (hcheck : e.check = Slot.initial) : d.Keeps e := by
  refine ⟨fun _ => ⟨fun g _ => ?_, fun _ => ?_⟩, fun _ => ⟨fun g => ?_, ?_⟩⟩
  · rw [hgroups]
    rfl
  · rw [hcheck]
    rfl
  · rw [hgroups]
    exact Slot.initial_windowSafe
  · rw [hcheck]
    exact Slot.initial_windowSafe

theorem Diff.keeps_initial (d : Diff) : d.Keeps Diff.initial := d.keeps_initialSlots (fun g => Tab.get_const _ g) rfl

theorem Diff.entry_keeps (d : Diff) : d.Keeps d.entry := d.keeps_initialSlots (fun g => Tab.get_const _ g) rfl

theorem Diff.clearWindows_keeps (d : Diff) : d.Keeps d.clearWindows := by
  refine Diff.keeps_of_slots id (fun g => ?_) (.mk (fun _ _ => rfl) fun _ => d.check.clearWindow_windowSafe)
  rw [Diff.clearWindows, Tab.get_ofFn]
  exact Slot.keeps_of_notOperate d rfl fun _ => (d.groups.get g).clearWindow_windowSafe

/-- A change of latches alone. -/
theorem Diff.keeps_latches (d : Diff) (l : Tab 4 Latch) : d.Keeps { d with latches := l } := ⟨id, id⟩

/-- Windows emptied where they stand: what the storage test leaves (R182). -/
theorem Diff.keeps_emptyRings (d : Diff) : d.Keeps { d with
    groups := .ofFn fun g => (d.groups.get g).withRing [], check := d.check.withRing [] } := by
  refine Diff.keeps_of_slots id (fun g => ?_) ?_
  · rw [Tab.get_ofFn]
    exact Slot.keeps_of_same d rfl rfl fun _ => Slot.withRing_windowSafe _ (by simp)
  · exact Slot.keeps_of_same d rfl rfl fun _ => Slot.withRing_windowSafe _ (by simp)

/-- A change of one group's slot and of the latches. -/
theorem Diff.keeps_setGroup (d : Diff) (g : Zone) {u : Slot} (h : Slot.Keeps d (d.groups.get g) u) (l : Tab 4 Latch) :
    d.Keeps { d with groups := d.groups.set g u, latches := l } := by
  refine Diff.keeps_of_slots id (fun f => ?_) (.refl d _)
  rw [Tab.get_set]
  split
  next hf => rwa [hf]
  next => exact .refl d _

theorem Slot.keeps_expireDropOff (d : Diff) (t : Slot) (w : Nat) : Slot.Keeps d t (t.expireDropOff w) := by
  unfold Slot.expireDropOff
  split_ifs
  · exact Slot.keeps_of_notOperate d rfl fun h => h.of_eq rfl rfl rfl rfl rfl
  · exact .refl d t

/-- Step 6 of R117 puts no BLOCKED slot into OPERATE. -/
theorem Slot.keeps_evaluate (d : Diff) (t : Slot) (idmin w nop slope : Nat) :
    Slot.Keeps d t (t.evaluate (d.blocked t) idmin w nop slope) := by
  refine ⟨fun h hb => ?_, fun h => Slot.evaluate_windowSafe h _ _ _ _ _⟩
  cases hblocked : d.blocked t with
  | true => exact h hblocked
  | false =>
    obtain ⟨operate, dropOff, heq⟩ := t.evaluate_eq idmin w nop slope
    rw [hblocked, heq] at hb
    exact absurd hb (Bool.eq_false_iff.1 hblocked)

theorem State.keeps_rebuild (s : State) (d : Diff) (t : Slot) (ms : List Member) : Slot.Keeps d t (s.rebuild t ms) :=
  Slot.keeps_of_notOperate d rfl fun _ => s.rebuild_windowSafe t ms

/-- The update of a window moves neither OPERATE nor a reason. -/
theorem State.keeps_update (s : State) (d : Diff) (t : Slot) (ms : List Member) (c : ClosedSet) :
    Slot.Keeps d t (s.update t ms c) := by
  have hsame : d.blocked (s.update t ms c) = d.blocked t ∧ (s.update t ms c).operate = t.operate := by
    unfold State.update Slot.dropOldest
    split_ifs
    · exact ⟨rfl, rfl⟩
    · split <;> exact ⟨rfl, rfl⟩
    · exact ⟨rfl, rfl⟩
  exact Slot.keeps_of_same d hsame.1 hsame.2 fun h => s.update_windowSafe h ms c

theorem State.groupWindow_keeps (s : State) (ch : Changes) (c : ClosedSet) (g : Zone) :
    Slot.Keeps s.diff (s.diff.groups.get g) (s.groupWindow ch c g) := by
  unfold State.groupWindow
  dsimp only
  split_ifs
  · exact Slot.keeps_of_notOperate _ rfl fun _ => Slot.initial_windowSafe
  · exact s.keeps_rebuild _ _ _
  · exact s.keeps_update _ _ _ c
  · exact .refl _ _

theorem Diff.windowsSafe_of_slots {d e : Diff} (h : d.WindowsSafe)
    (hgroups : ∀ g, (d.groups.get g).WindowSafe → (e.groups.get g).WindowSafe)
    (hcheck : d.check.WindowSafe → e.check.WindowSafe) : e.WindowsSafe :=
  ⟨fun g => hgroups g (h.1 g), hcheck h.2⟩

theorem State.withReasons_keeps (s : State) : s.diff.Keeps (Diff.reblock s.diff s.withReasons) := by
  refine Diff.reblock_keeps (fun g => by simp [State.withReasons]) rfl fun h => ?_
  refine Diff.windowsSafe_of_slots h (fun g hg => ?_) (·.of_eq rfl rfl rfl rfl rfl)
  rw [State.withReasons, Tab.get_ofFn]
  exact hg.of_eq rfl rfl rfl rfl rfl

theorem State.withMissing_keeps (s : State) : s.diff.Keeps (Diff.reblock s.diff s.withMissing) := by
  refine Diff.reblock_keeps (fun g => by simp [State.withMissing, Slot.withMissing]) rfl fun h => ?_
  refine Diff.windowsSafe_of_slots h (fun g hg => ?_) (·.of_eq rfl rfl rfl rfl rfl)
  rw [State.withMissing, Tab.get_ofFn]
  exact hg.of_eq rfl rfl rfl rfl rfl

theorem State.diffEvaluate_keeps (s : State) : s.diff.Keeps s.diffEvaluate.diff := by
  refine Diff.keeps_of_slots id (fun g => ?_) (Slot.keeps_evaluate ..)
  rw [State.diffEvaluate, Tab.get_ofFn]
  dsimp only
  split_ifs
  · exact Slot.keeps_evaluate ..
  · exact .refl _ _

/-! ### Path states (R52) -/

/-- What a change of a path keeps. -/
def PathCtl.Keeps (p q : PathCtl) : Prop := p.Consistent → q.Consistent

theorem PathCtl.Keeps.trans {p q r : PathCtl} (h1 : p.Keeps q) (h2 : q.Keeps r) : p.Keeps r := h2 ∘ h1

/-- The consistency of a path rests on its state, its count and its line. -/
theorem PathCtl.keeps_of_eq {p q : PathCtl} (hstate : q.state = p.state) (hhealth : q.health = p.health)
    (hline : q.line = p.line) : p.Keeps q := by
  unfold PathCtl.Keeps PathCtl.Consistent
  rw [hstate, hhealth, hline]
  exact id

theorem PathCtl.cut_keeps (p : PathCtl) : p.Keeps p.cut := PathCtl.keeps_of_eq rfl rfl rfl

theorem PathCtl.begin_keeps (p : PathCtl) : p.Keeps p.begin := by
  unfold PathCtl.begin
  split <;> exact PathCtl.keeps_of_eq rfl rfl rfl

theorem PathCtl.placeSample_keeps (f : List Byte) (p : PathCtl) : p.Keeps (p.placeSample f) := by
  unfold PathCtl.placeSample
  split <;> exact PathCtl.keeps_of_eq rfl rfl rfl

theorem PathCtl.placeOther_keeps (f : List Byte) (p : PathCtl) : p.Keeps (p.placeOther f) := by
  unfold PathCtl.placeOther
  split <;> exact PathCtl.keeps_of_eq rfl rfl rfl

/-- The evaluation of a path that is not DOWN sets the state that the count gives (R52). -/
theorem PathCtl.evaluate_consistent {p : PathCtl} (hstate : p.state ≠ .down) (hline : p.line = true)
    (hhealth : p.health ≤ 255) : p.evaluate.Consistent := by
  unfold PathCtl.evaluate PathCtl.Consistent
  cases hcases : p.state with
  | down => exact absurd hcases hstate
  | failed => by_cases h : p.health = 0 <;> simp [h, hline, hhealth]; omega
  | up | degraded =>
    by_cases h1 : 255 ≤ p.health <;> by_cases h2 : 96 ≤ p.health <;> simp [h1, h2, hline, hhealth] <;> omega

/-- A path that is not DOWN has its line high. -/
theorem PathCtl.Consistent.line {p : PathCtl} (h : p.Consistent) (hstate : p.state ≠ .down) : p.line = true :=
  Bool.eq_true_of_not_eq_false fun hline => hstate (h.1.2 hline)

theorem PathCtl.charge_keeps (n : Nat) (p : PathCtl) : p.Keeps (p.charge n) := by
  intro h
  unfold PathCtl.charge
  split_ifs with hdown
  · exact h
  · exact PathCtl.evaluate_consistent hdown (h.line hdown) (Nat.min_le_left ..)

theorem PathCtl.credit_keeps (p : PathCtl) : p.Keeps p.credit := by
  intro h
  unfold PathCtl.credit
  split_ifs with hdown
  · exact h
  · exact PathCtl.evaluate_consistent hdown (h.line hdown) ((Nat.sub_le ..).trans h.2.1)

theorem PathCtl.badFcs_keeps (p : PathCtl) : p.Keeps p.badFcs :=
  .trans (q := { p with fcs := satInc Config.count16 p.fcs }) (PathCtl.keeps_of_eq rfl rfl rfl)
    (PathCtl.charge_keeps 8 _)

theorem PathCtl.badPayload_keeps (p : PathCtl) : p.Keeps p.badPayload :=
  .trans (q := { p with malformed := satInc Config.count16 p.malformed }) (PathCtl.keeps_of_eq rfl rfl rfl)
    (PathCtl.charge_keeps 8 _)

theorem PathCtl.badSender_keeps (p : PathCtl) : p.Keeps p.badSender := PathCtl.keeps_of_eq rfl rfl rfl

theorem PathCtl.chargeFrames_keeps (n : Nat) (p : PathCtl) : p.Keeps (p.chargeFrames n) := by
  unfold PathCtl.chargeFrames
  split_ifs
  · exact id
  · exact PathCtl.charge_keeps _ p

theorem PathCtl.goDown_consistent {p : PathCtl} (h : p.health ≤ 255) : p.goDown.Consistent := by
  simp [PathCtl.Consistent, PathCtl.goDown, PathCtl.cut, h]

theorem PathCtl.goDown_keeps (p : PathCtl) : p.Keeps p.goDown := fun h => PathCtl.goDown_consistent h.2.1

theorem PathCtl.comeUp_keeps (p : PathCtl) : p.Keeps p.comeUp := fun _ => by simp [PathCtl.Consistent, PathCtl.comeUp]

theorem PathCtl.initial_consistent (line enabled : Bool) : (PathCtl.initial line enabled).Consistent := by
  cases line <;> cases enabled <;> simp [PathCtl.Consistent, PathCtl.initial]

theorem PathCtl.entry_keeps (p : PathCtl) : p.Keeps p.entry := by
  intro h
  unfold PathCtl.entry
  split_ifs with hfailed hline
  · have hline := h.line (by simp [hfailed])
    simp [PathCtl.Consistent, PathCtl.cut, hfailed, hline]
  · simp [PathCtl.Consistent, PathCtl.cut, hline]
  · simp [PathCtl.Consistent, PathCtl.cut, hline]

theorem PathCtl.loopResult_keeps (passed : Bool) (p : PathCtl) : p.Keeps (p.loopResult passed) := by
  intro h
  unfold PathCtl.loopResult
  split_ifs with hpassed
  · exact h
  · simp only [Bool.or_eq_true, beq_iff_eq, not_or] at hpassed
    simp [PathCtl.Consistent, h.line hpassed.2]

/-! ### The index and the trim (R18, R33) -/

theorem clampTo_bounds {limit : Int} (h : 0 ≤ limit) (v : Int) :
    -limit ≤ clampTo limit v ∧ clampTo limit v ≤ limit := by
  unfold clampTo
  omega

/-- What the publication of a drift count sets: an accepted count a trim within ±512, another one the rejections
(R33). -/
theorem Clock.publish_eq (c : Clock) (count m : Nat) (h : c.InRange) : ∃ trim rejects,
    c.publish count m = { c with lastDrift := some count, trim := trim, driftRejects := rejects }
      ∧ -512 ≤ trim ∧ trim ≤ 512 := by
  unfold Clock.publish
  split_ifs
  · exact ⟨_, _, rfl, clampTo_bounds (by decide) _⟩
  · exact ⟨c.trim, _, rfl, h.2⟩

namespace Clock.InRange

variable {c : Clock}

/-- The range rests on the index and the trim. -/
theorem of_eq {d : Clock} (h : c.InRange) (hindex : d.index = c.index) (htrim : d.trim = c.trim) : d.InRange := by
  unfold Clock.InRange at h ⊢
  rwa [hindex, htrim]

theorem enter (h : c.InRange) (n : SyncState) : (c.enter n).InRange := by
  obtain ⟨-, -, hindex, -, -, htrim, -⟩ := c.enter_fields n
  exact h.of_eq hindex htrim

theorem startPeriod (h : c.InRange) : c.startPeriod.InRange := h

theorem driftMark (h : c.InRange) (m : Nat) (t : Tick) : (c.driftMark m t).InRange := by
  unfold Clock.driftMark
  split_ifs
  · exact h
  · split
    · exact h
    · split_ifs
      · obtain ⟨trim, rejects, heq, hlow, hhigh⟩ := c.publish_eq (t - _).toNat m h
        rw [heq]
        exact ⟨h.1, hlow, hhigh⟩
      · exact h

theorem secondMark (h : c.InRange) (m : Nat) (index : Option Nat) : (c.secondMark m index).InRange := by
  unfold Clock.secondMark
  dsimp only
  split_ifs
  · exact (driftMark (c := { c with drift := .idle }) h m _).of_eq rfl rfl
  · exact (h.driftMark m _).of_eq rfl rfl

theorem missMark (h : c.InRange) : c.missMark.InRange := h

theorem ppsSlew (h : c.InRange) (e : Int) : (c.ppsSlew e).InRange := by
  unfold Clock.ppsSlew
  split_ifs <;> exact h

theorem ppsAcquire (h : c.InRange) (e : Int) : (c.ppsAcquire e).InRange := by
  have hslew := h.ppsSlew e
  unfold Clock.ppsAcquire
  dsimp only
  split_ifs
  · exact enter (c := { c.ppsSlew e with lockProgress := (c.ppsSlew e).lockProgress + 1 }) hslew _
  · exact hslew
  · exact hslew

theorem excursionRule (h : c.InRange) (limit : Nat) (e : Int) : (c.excursionRule limit e).InRange := by
  unfold Clock.excursionRule
  dsimp only
  split_ifs
  · exact enter (c := { c with excursion := c.excursion + 1 }) h _
  · exact h
  · exact h

theorem qualifiedEdge (h : c.InRange) : c.qualifiedEdge.InRange := by
  unfold Clock.qualifiedEdge
  split
  · exact h.enter _
  · exact h.enter _
  · split_ifs
    · exact h
    · split
      · exact h.ppsAcquire _
      · exact h
  · split
    · exact (h.ppsSlew _).excursionRule 2 _
    · exact h
  · exact h
  · exact h

theorem disqualify (h : c.InRange) : c.disqualify.InRange := by
  unfold Clock.disqualify
  dsimp only
  split
  · exact enter (c := { c.missMark with qualified := false, validRun := 0 }) h _
  · exact enter (c := { c.missMark with qualified := false, validRun := 0 }) h _
  all_goals exact h

theorem ppsSilent (h : c.InRange) : c.ppsSilent.InRange := h.disqualify

theorem countEdge (h : c.InRange) : c.countEdge.InRange := by
  unfold Clock.countEdge
  dsimp only
  split
  · exact h
  · split_ifs
    · exact h
    · exact disqualify (c := { c with lastEdge := some c.tick, sinceEdge := 0 }) h
    · exact h

theorem edge (h : c.InRange) (m : Nat) : (c.edge m).InRange := by
  unfold Clock.edge
  dsimp only
  split_ifs
  · exact h.countEdge.qualifiedEdge.secondMark m none
  · exact h.countEdge

theorem batch (h : c.InRange) (e : Int) : (c.batch e).InRange := by
  unfold Clock.batch
  dsimp only
  split_ifs <;> exact h

theorem peerAcquire (h : c.InRange) (e : Int) : (c.peerAcquire e).InRange := by
  have hbatch := h.batch e
  unfold Clock.peerAcquire
  dsimp only
  split_ifs
  · exact enter (c := { c.batch e with lockProgress := (c.batch e).lockProgress + 1 }) hbatch _
  · exact hbatch
  · exact hbatch

theorem trackPeer (h : c.InRange) (k tlink : Nat) : (c.trackPeer k tlink).InRange := by
  unfold Clock.trackPeer
  split
  · split_ifs
    · exact h
    · split
      · exact h.peerAcquire _
      · exact h
  · split
    · exact (h.batch _).excursionRule 3 _
    · exact h
  all_goals exact h

theorem use (h : c.InRange) (f : Frame) (pps : Bool) (tlink m : Nat) : (c.use f pps tlink m).InRange := by
  have hused : ({ c with lastAuth := some f.index, lastUsed := some ⟨f.index, c.tick⟩ } : Clock).InRange := h
  unfold Clock.use
  dsimp only
  split_ifs
  · exact hused
  · exact (hused.trackPeer _ _).secondMark m _
  · exact hused.trackPeer _ _

theorem changeAuthority (h : c.InRange) (a : Authority) (pps : Bool) : (c.changeAuthority a pps).InRange := by
  unfold Clock.changeAuthority
  dsimp only
  split_ifs <;> exact h

theorem misfitRule (h : c.InRange) (fit misfit : Bool) : (c.misfitRule fit misfit).InRange := by
  unfold Clock.misfitRule
  dsimp only
  split_ifs
  · exact h
  · exact enter (c := { c with misfit := c.misfit + 1 }) h _
  all_goals exact h

theorem peerChecks (h : c.InRange) (old : Authority) (lowest : Bool) : (c.peerChecks old lowest).InRange := by
  unfold Clock.peerChecks
  split
  · split_ifs
    · exact h.enter _
    · exact h
  · split_ifs
    · exact h.enter _
    · exact h
    · exact h
  · split_ifs
    · exact h.enter _
    · exact h
  · split_ifs
    · exact h.enter _
    · exact h
  all_goals exact h

theorem limitHoldover (h : c.InRange) (limit : Nat) : (c.limitHoldover limit).InRange := by
  unfold Clock.limitHoldover
  split_ifs
  · exact h.enter _
  · exact h

theorem raiseLoss (h : c.InRange) : c.raiseLoss.InRange := by
  unfold Clock.raiseLoss
  split_ifs <;> exact h

theorem countInstant (h : c.InRange) (limit : Nat) : (c.countInstant limit).InRange := by
  unfold Clock.countInstant
  split
  · exact raiseLoss (c := { c with unlockedRun := satInc 2401 c.unlockedRun }) h
  · exact raiseLoss (c := { c with
      unlockedRun := satInc 2401 c.unlockedRun, acquiringElapsed := satInc Config.sampleRate c.acquiringElapsed }) h
  · exact limitHoldover (c := { c with holdoverElapsed := c.holdoverElapsed + 1 }) h limit
  all_goals exact h

/-- The index of an instant is taken modulo 48,000 (R18). -/
theorem instant (h : c.InRange) (run : Bool) (limit : Nat) : (c.instant run limit).InRange := by
  have htrim : c.spendSlew.trim = c.trim := by
    unfold Clock.spendSlew
    split_ifs <;> rfl
  have hnow {d : Clock} (hindex : d.index = nextIndex c.index) (hd : d.trim = c.spendSlew.trim) : d.InRange :=
    ⟨hindex ▸ Nat.mod_lt _ (by decide), hd ▸ htrim ▸ h.2.1, hd ▸ htrim ▸ h.2.2⟩
  unfold Clock.instant
  dsimp only
  split_ifs
  · exact startPeriod (countInstant (hnow (by rfl) (by rfl)) limit)
  · exact startPeriod (hnow (by rfl) (by rfl))

/-- The index after a step is taken modulo 48,000 (R25, R26). -/
theorem step (h : c.InRange) (b : Stamp) : (c.step b).InRange :=
  ⟨Nat.mod_lt _ (by decide), h.2⟩

theorem cold : Clock.cold.InRange := by
  unfold Clock.InRange
  decide

theorem entry (h : c.InRange) (test : Bool) : (c.entry test).InRange :=
  ⟨show 48000 - 1 < 48000 by decide, h.2⟩

end Clock.InRange

end Sys2Proof.Machine
end

section
/-! PROOFS. What every operation of the machine keeps: the queue and the five invariants (R18, R33, R52, R120, R134,
R143, R160, R161). `State.Keeps` is a preorder, so that one walk through the operations says it of every command; the
invariants of the step are its projections. -/

namespace Sys2Proof.Machine

/-! ### The preorder -/

/-- The queue stands, and the Differential Unit, the paths and the clock keep their invariants. -/
structure State.UnitsKeep (s t : State) : Prop where
  pending : t.pending = s.pending
  diff : s.diff.Keeps t.diff
  paths : ∀ p, (s.link.paths.get p).Keeps (t.link.paths.get p)
  clock : s.clock.InRange → t.clock.InRange

/-- The queue stands, and every invariant that holds of `s` holds of `t`. -/
structure State.Keeps (s t : State) : Prop extends State.UnitsKeep s t where
  trip : s.TripSafe → t.TripSafe

/-- The same of work in progress in a closure, where the Trip Unit's part is not claimed once a fault has halted the
station: the closure is then abandoned (assumption log 12). -/
structure State.Works (s t : State) : Prop extends State.UnitsKeep s t where
  trip : t.ctl.mode = .halted ∨ t.ctl.mode = s.ctl.mode ∧ (s.TripSafe → t.TripSafe)

theorem State.UnitsKeep.trans {s t u : State} (h1 : s.UnitsKeep t) (h2 : t.UnitsKeep u) : s.UnitsKeep u where
  pending := h2.pending.trans h1.pending
  diff := h1.diff.trans h2.diff
  paths p := (h1.paths p).trans (h2.paths p)
  clock := h2.clock ∘ h1.clock

theorem State.Keeps.refl (s : State) : s.Keeps s := ⟨⟨rfl, .refl _, fun _ => id, id⟩, id⟩

theorem State.Keeps.trans {s t u : State} (h1 : s.Keeps t) (h2 : t.Keeps u) : s.Keeps u :=
  ⟨h1.toUnitsKeep.trans h2.toUnitsKeep, h2.trip ∘ h1.trip⟩

theorem State.Works.trans {s t u : State} (h1 : s.Works t) (h2 : t.Works u) : s.Works u := by
  refine ⟨h1.toUnitsKeep.trans h2.toUnitsKeep, ?_⟩
  rcases h2.trip with h | ⟨hmode, htrip⟩
  · exact .inl h
  · rcases h1.trip with h | ⟨hmode1, htrip1⟩
    · exact .inl (hmode.trans h)
    · exact .inr ⟨hmode.trans hmode1, htrip ∘ htrip1⟩

/-- What is kept in full, with the mode or in HALTED, is kept by work in progress. -/
theorem State.Keeps.works {s t : State} (h : s.Keeps t) (hmode : t.ctl.mode = .halted ∨ t.ctl.mode = s.ctl.mode) :
    s.Works t :=
  ⟨h.toUnitsKeep, hmode.imp_right fun hm => ⟨hm, h.trip⟩⟩

theorem State.Works.refl (s : State) : s.Works s := (State.Keeps.refl s).works (.inr rfl)

/-- States that agree in all that the invariants speak of. -/
theorem State.keeps_of_eq {s t : State} (hpending : t.pending = s.pending) (hdiff : t.diff = s.diff)
    (hpaths : t.link.paths = s.link.paths) (hclock : t.clock = s.clock) (htrip : t.trip = s.trip)
    (hmode : t.ctl.mode = s.ctl.mode) (hreported : t.ctl.tripReported = s.ctl.tripReported) : s.Keeps t := by
  refine ⟨⟨hpending, hdiff ▸ .refl _, fun p => ?_, fun h => hclock ▸ h⟩, fun h => ?_⟩
  · rw [hpaths]
    exact id
  · unfold State.TripSafe at h ⊢
    rwa [htrip, hmode, hreported]

theorem State.keeps_diff (s : State) {d : Diff} (h : s.diff.Keeps d) : s.Keeps { s with diff := d } :=
  ⟨⟨rfl, h, fun _ => id, id⟩, id⟩

theorem State.keeps_clock (s : State) {c : Clock} (h : s.clock.InRange → c.InRange) :
    s.Keeps { s with clock := c } :=
  ⟨⟨rfl, .refl _, fun _ => id, h⟩, id⟩

theorem State.keeps_link (s : State) {l : Link} (h : ∀ p, (s.link.paths.get p).Keeps (l.paths.get p)) :
    s.Keeps { s with link := l } :=
  ⟨⟨rfl, .refl _, h, id⟩, id⟩

/-- A change of one path by what keeps it. -/
theorem Link.onPath_keeps (l : Link) (q : Path) {f : PathCtl → PathCtl} (h : ∀ c : PathCtl, c.Keeps (f c)) (p : Path) :
    (l.paths.get p).Keeps ((l.onPath q f).paths.get p) := by
  rw [Link.get_onPath]
  split_ifs with hp
  · rw [hp]
    exact h _
  · exact id

/-- A change of both paths by what keeps them. -/
theorem Link.both_keeps (l : Link) {f : PathCtl → PathCtl} (h : ∀ c : PathCtl, c.Keeps (f c)) (p : Path) :
    (l.paths.get p).Keeps ((l.both f).paths.get p) := by
  cases p <;> exact h _

theorem State.keeps_driven (s : State) : s.Keeps s.driven := State.keeps_of_eq rfl rfl rfl rfl rfl rfl rfl

theorem State.keeps_elapse (s : State) (n : Nat) : s.Keeps (s.elapse n) := by
  obtain ⟨hpending, -, -, hlink, -, -, -, hdiff, htrip, -⟩ := s.elapse_fields n
  obtain ⟨hmode, -, -, -, -, -, -, hreported⟩ := s.elapse_ctl n
  obtain ⟨hindex, htrim, -⟩ := s.elapse_clock n
  refine ⟨⟨hpending, hdiff ▸ .refl _, fun p => hlink ▸ id, fun h => h.of_eq hindex htrim⟩, fun h => ?_⟩
  unfold State.TripSafe at h ⊢
  rwa [htrip, hmode, hreported]

/-! ### Leaving a mode, HALTED and blocking faults -/

/-- TRIP and the test trip are released, and TRIP is reported so. -/
structure State.Released (s : State) : Prop where
  output : s.trip.output = false
  testTrip : s.trip.testTrip = false
  reported : s.ctl.tripReported = false

theorem State.Released.tripSafe {s : State} (h : s.Released) : s.TripSafe := by
  simp [State.TripSafe, h.output, h.testTrip, h.reported]

/-- Leaving RUN or TEST releases TRIP and the test trip; in any other mode neither stands (R143, R161). -/
theorem State.leaveMode_released {s : State} (h : s.TripSafe) : s.leaveMode.Released := by
  obtain ⟨hrun, htest, hreported⟩ := h
  by_cases hmode : s.ctl.mode = .run ∨ s.ctl.mode = .test
  · rw [State.leaveMode, if_pos hmode]
    exact ⟨rfl, rfl, rfl⟩
  · rw [State.leaveMode, if_neg hmode]
    have hout : s.trip.output = false := Bool.eq_false_iff.2 fun ho => hmode (.inl (hrun ho))
    exact ⟨hout, Bool.eq_false_iff.2 fun ht => hmode (.inr (htest ht)), hreported.trans hout⟩

theorem State.keeps_leaveMode (s : State) : s.Keeps s.leaveMode := by
  refine ⟨⟨s.leaveMode_fields.2.1, ?_, fun p => ?_, fun h => ?_⟩, fun h => (State.leaveMode_released h).tripSafe⟩
  · rw [s.leaveMode_fields.2.2.2.2.2.2.2.1]
    exact .refl _
  · unfold State.leaveMode
    split_ifs
    · cases p <;> exact PathCtl.cut_keeps _
    · exact id
    · exact id
  · unfold State.leaveMode
    split_ifs <;> exact h

/-- A mode entered once TRIP is released keeps what leaving the former one kept. -/
theorem State.keeps_of_leaveMode {s t : State} (hpending : t.pending = s.leaveMode.pending)
    (hdiff : s.leaveMode.diff.Keeps t.diff) (hpaths : t.link.paths = s.leaveMode.link.paths)
    (hclock : t.clock = s.leaveMode.clock) (htrip : t.trip = s.leaveMode.trip)
    (hreported : t.ctl.tripReported = s.leaveMode.ctl.tripReported) : s.Keeps t := by
  refine ⟨s.keeps_leaveMode.toUnitsKeep.trans ⟨hpending, hdiff, fun p => ?_, fun h => hclock ▸ h⟩, fun h => ?_⟩
  · rw [hpaths]
    exact id
  · obtain ⟨hout, htest, hrep⟩ := State.leaveMode_released h
    exact State.Released.tripSafe ⟨htrip ▸ hout, htrip ▸ htest, hreported.trans hrep⟩

theorem State.keeps_halt (s : State) (code : HaltCode) (second : Option FaultReport) :
    s.Keeps (s.halt code second) := by
  by_cases hmode : s.ctl.mode = .halted
  · rw [State.halt, if_pos hmode]
    exact .refl s
  · rw [State.halt, if_neg hmode]
    exact State.keeps_of_leaveMode rfl (.refl _) rfl rfl rfl rfl

@[simp] theorem State.halt_mode (s : State) (code : HaltCode) (second : Option FaultReport) :
    (s.halt code second).ctl.mode = .halted := by
  rcases s.halt_cases code second with ⟨hmode, heq⟩ | ⟨-, hmode, -⟩
  · rw [heq, hmode]
  · exact hmode

theorem State.keeps_writeFault (s : State) (f : FaultReport) : s.Keeps (s.writeFault f) := by
  unfold State.writeFault
  dsimp only
  split_ifs
  · exact .trans (t := { s with sup := { s.sup with fault := some (s.newRecord f) } })
      (State.keeps_of_eq rfl rfl rfl rfl rfl rfl rfl) (State.keeps_halt _ _ _)
  · exact ⟨⟨rfl, s.diff.addFault_keeps, fun _ => id, id⟩, id⟩

theorem State.keeps_takeFault (s : State) (f : FaultReport) : s.Keeps (s.takeFault f) := by
  rcases s.takeFault_cases f with ⟨-, heq⟩ | ⟨r, -, -, heq⟩ | ⟨-, heq⟩ | ⟨r, -, -, -, heq⟩ <;> rw [heq]
  · exact .refl s
  · exact State.keeps_of_eq rfl rfl rfl rfl rfl rfl rfl
  · exact s.keeps_writeFault f
  · exact s.keeps_halt _ _

/-- A blocking fault halts the station or leaves its mode. -/
theorem State.takeFault_mode (s : State) (f : FaultReport) :
    (s.takeFault f).ctl.mode = .halted ∨ (s.takeFault f).ctl.mode = s.ctl.mode := by
  rcases s.takeFault_cases f with ⟨-, heq⟩ | ⟨r, -, -, heq⟩ | ⟨-, heq⟩ | ⟨r, -, -, -, heq⟩ <;> rw [heq]
  · exact .inr rfl
  · exact .inr rfl
  · unfold State.writeFault
    dsimp only
    split_ifs
    · exact .inl (State.halt_mode ..)
    · exact .inr rfl
  · exact .inl (State.halt_mode ..)

theorem State.works_takeFault (s : State) (f : FaultReport) : s.Works (s.takeFault f) :=
  (s.keeps_takeFault f).works (s.takeFault_mode f)

theorem State.works_takeFaults (s : State) (fs : List FaultReport) : s.Works (s.takeFaults fs) :=
  State.takeFaults_keeps (P := s.Works) (fun u f h => h.trans (u.works_takeFault f)) fs (.refl s)

/-! ### The work of a closure -/

theorem State.works_of_eq {s t : State} (hpending : t.pending = s.pending) (hdiff : s.diff.Keeps t.diff)
    (hpaths : ∀ p, (s.link.paths.get p).Keeps (t.link.paths.get p)) (hclock : s.clock.InRange → t.clock.InRange)
    (htrip : t.trip = s.trip) (hmode : t.ctl.mode = s.ctl.mode) (hreported : t.ctl.tripReported = s.ctl.tripReported) :
    s.Works t := by
  refine ⟨⟨hpending, hdiff, hpaths, hclock⟩, .inr ⟨hmode, fun h => ?_⟩⟩
  unfold State.TripSafe at h ⊢
  rwa [htrip, hmode, hreported]

theorem State.works_settle (s : State) (o : OpenSet) : s.Works (s.settle o) := by
  refine (s.works_takeFaults (s.openReports o ++ s.sourceReports o)).trans ?_
  refine State.works_of_eq rfl (.refl _) (fun p => ?_) id rfl rfl rfl
  cases p <;> exact PathCtl.chargeFrames_keeps _ _

theorem State.works_endConflict (s : State) : s.Works s.endConflict :=
  State.works_of_eq rfl s.diff.dropConflict_keeps (fun _ => id) id rfl rfl rfl

theorem State.works_conflictClosure (s : State) : s.Works s.conflictClosure := by
  unfold State.conflictClosure
  dsimp only
  split_ifs
  · exact .refl s
  · exact State.works_of_eq rfl (.refl _) (fun _ => id) id rfl rfl rfl
  · exact .trans (t := { s with roster := { s.roster with conflictFree := s.roster.conflictFree + 1 } })
      (State.works_of_eq rfl (.refl _) (fun _ => id) id rfl rfl rfl) (State.works_endConflict _)
  · exact State.works_of_eq rfl (.refl _) (fun _ => id) id rfl rfl rfl

theorem State.works_viewClear (s : State) : s.Works s.viewClear := by
  rw [State.viewClear_eq]
  exact State.works_of_eq rfl (.refl _) (fun _ => id) id rfl rfl rfl

theorem State.works_rosterClosure (s : State) : s.Works s.rosterClosure := by
  have hentries : s.Works { s with roster := { s.roster with
      entries := .ofFn fun n => if s.isOwn n then s.entry n else (s.entry n).closure s.ownSig } } :=
    State.works_of_eq rfl (.refl _) (fun _ => id) id rfl rfl rfl
  unfold State.rosterClosure
  dsimp only
  split_ifs
  · exact hentries.trans ((State.works_conflictClosure _).trans (State.works_viewClear _))
  · exact hentries

/-- The clock of a closure in RUN with UNLOCKED in sync mode PEER passed to ACQUIRING (R23, R25). -/
def State.clockStart (s : State) : Clock :=
  if !s.syncPps && s.clock.sync == .unlocked then s.clock.enter .acquiring else s.clock

/-- That clock with the index authority named (R21). -/
def State.clockNamed (s : State) : Clock :=
  let new := State.nameAuthority { s with clock := s.clockStart }
  if new = s.clockStart.authority then s.clockStart else s.clockStart.changeAuthority new s.syncPps

/-- The clock's work at a closure in RUN, in the order of R21. -/
theorem State.clockClosure_run (s : State) (h : s.ctl.mode = .run) (fit misfit : Bool) :
    s.clockClosure fit misfit = { s with clock :=
      if s.syncPps then s.clockNamed.misfitRule fit misfit
      else (s.clockNamed.misfitRule fit misfit).peerChecks s.clockStart.authority s.lowestHeard } := by
  rw [State.clockClosure, if_pos h]
  rfl

theorem State.clockClosure_other (s : State) (h : s.ctl.mode ≠ .run) (fit misfit : Bool) :
    s.clockClosure fit misfit = s := if_neg h

theorem State.clockStart_inRange {s : State} (h : s.clock.InRange) : s.clockStart.InRange := by
  unfold State.clockStart
  split_ifs
  · exact h.enter _
  · exact h

theorem State.clockNamed_inRange {s : State} (h : s.clock.InRange) : s.clockNamed.InRange := by
  unfold State.clockNamed
  dsimp only
  split_ifs
  · exact State.clockStart_inRange h
  · exact (State.clockStart_inRange h).changeAuthority _ _

theorem State.works_clockClosure (s : State) (fit misfit : Bool) : s.Works (s.clockClosure fit misfit) := by
  by_cases hrun : s.ctl.mode = .run
  · rw [s.clockClosure_run hrun]
    refine State.works_of_eq rfl (.refl _) (fun _ => id) (fun h => ?_) rfl rfl rfl
    have hmisfit := (State.clockNamed_inRange h).misfitRule fit misfit
    dsimp only
    split_ifs
    · exact hmisfit
    · exact hmisfit.peerChecks _ _
  · rw [s.clockClosure_other hrun]
    exact .refl s

theorem State.works_diffGroup (ch : Changes) (old : Tab 4 Latch) (c : ClosedSet) (s : State) (g : Zone) :
    s.Works (State.diffGroup ch old c s g) := by
  refine (s.works_takeFaults (s.groupReports ch c g)).trans ?_
  exact State.works_of_eq rfl (Diff.keeps_setGroup _ g (State.groupWindow_keeps _ ch c g) _) (fun _ => id) id
    rfl rfl rfl

theorem State.works_diffCheck (s : State) (ch : Changes) (c : ClosedSet) : s.Works (s.diffCheck ch c) := by
  refine (s.works_takeFaults
    (s.windowReports .check s.diff.check s.replica.membership.checkMembers ch.check c)).trans ?_
  refine State.works_of_eq rfl (Diff.keeps_of_slots id (fun g => .refl _ _) ?_) (fun _ => id) id rfl rfl rfl
  unfold State.diffCheck
  dsimp only
  split_ifs
  · exact State.keeps_rebuild _ _ _ _
  · exact State.keeps_update _ _ _ _ c

theorem State.works_differential (s : State) (ch : Changes) (c : ClosedSet) : s.Works (s.differential ch c) := by
  have hreasons : s.Works s.diffReasons :=
    State.works_of_eq rfl s.withReasons_keeps (fun _ => id) id rfl rfl rfl
  have hgroups (old : Tab 4 Latch) (gs : List Zone) (u : State) : u.Works (gs.foldl (State.diffGroup ch old c) u) := by
    induction gs generalizing u with
    | nil => exact .refl u
    | cons g gs ih => exact (State.works_diffGroup ch old c u g).trans (ih _)
  have hmissing (u : State) : u.Works u.diffMissing :=
    State.works_of_eq rfl u.withMissing_keeps (fun _ => id) id rfl rfl rfl
  have hlatches (u : State) (operate : Tab 4 Bool) : u.Works (u.diffLatches operate) :=
    State.works_of_eq rfl (u.diff.keeps_latches _) (fun _ => id) id rfl rfl rfl
  have hevaluate (u : State) : u.Works u.diffEvaluate :=
    State.works_of_eq rfl u.diffEvaluate_keeps (fun _ => id) id rfl rfl rfl
  exact (hreasons.trans (hgroups _ _ _)).trans
    ((State.works_diffCheck _ ch c).trans ((hmissing _).trans ((hlatches _ _).trans (hevaluate _))))

theorem State.works_zoneWork (s : State) (c : ClosedSet) : s.Works (s.zoneWork c) := by
  refine (s.works_takeFaults (s.replicaReports c.index)).trans ?_
  refine .trans ?_ (State.works_differential _ _ c)
  exact State.works_of_eq rfl (.refl _) (fun _ => id) id rfl rfl rfl

theorem State.works_datapathCheck (s : State) (k : Nat) : s.Works (s.datapathCheck k) := by
  unfold State.datapathCheck
  dsimp only
  have hmask : s.Works { s with sup := { s.sup with invertMask := (s.sup.invertMask + 1) % 16 } } :=
    State.works_of_eq rfl (.refl _) (fun _ => id) id rfl rfl rfl
  split_ifs
  · split
    · exact hmask
    · exact hmask.trans (State.works_takeFault _ _)
  · exact .refl s

/-- The modes in which a closure is at work: RUN, TEST, and HALTED once a fault has halted it. -/
def State.Closing (s : State) : Prop := s.ctl.mode = .run ∨ s.ctl.mode = .test ∨ s.ctl.mode = .halted

theorem State.Works.closing {s t : State} (h : s.Works t) (hs : s.Closing) : t.Closing := by
  rcases h.trip with hm | ⟨hm, -⟩
  · exact .inr (.inr hm)
  · unfold State.Closing
    rwa [hm]

/-- The Trip Unit is replaced by one that asserts TRIP in RUN alone and the test trip in TEST alone. -/
theorem State.works_withTrip (s : State) (hs : s.Closing) {t : Trip}
    (hout : t.output = true → s.trip.output = true ∨ s.inTest = false)
    (htest : t.testTrip = true → s.trip.testTrip = true ∨ s.inTest = true) : s.Works (s.withTrip t) := by
  refine ⟨⟨rfl, .refl _, fun _ => id, id⟩, ?_⟩
  rcases hs with hm | hm | hm
  · refine .inr ⟨rfl, fun h => ⟨fun _ => hm, fun ht => ?_, rfl⟩⟩
    exact (htest ht).elim h.2.1 fun hin => by simp [State.inTest, hm] at hin
  · refine .inr ⟨rfl, fun h => ⟨fun ho => ?_, fun _ => hm, rfl⟩⟩
    exact (hout ho).elim h.1 fun hin => by simp [State.inTest, hm] at hin
  · exact .inl hm

theorem State.declareBf_outputs (s : State) :
    s.declareBf.output = s.trip.output ∧ s.declareBf.testTrip = s.trip.testTrip := by
  unfold State.declareBf
  split_ifs <;> exact ⟨rfl, rfl⟩

theorem State.tripSums_outputs (s : State) :
    s.tripSums.output = s.trip.output ∧ s.tripSums.testTrip = s.trip.testTrip := by
  unfold State.tripSums
  split <;> exact ⟨rfl, rfl⟩

theorem State.tripBf_outputs (s : State) :
    s.tripBf.output = s.trip.output ∧ s.tripBf.testTrip = s.trip.testTrip := by
  unfold State.tripBf
  split
  · exact ⟨rfl, rfl⟩
  · split_ifs
    · exact ⟨rfl, rfl⟩
    · exact s.declareBf_outputs
    · exact ⟨rfl, rfl⟩
  · split_ifs <;> exact ⟨rfl, rfl⟩

theorem Trip.setState_outputs (t : Trip) (test : Bool) :
    (t.setState test).output = t.output ∧ (t.setState test).testTrip = t.testTrip := by
  unfold Trip.setState
  split_ifs <;> exact ⟨rfl, rfl⟩

theorem Trip.startTiming_outputs (t : Trip) (test : Bool) (tbf : Nat) :
    (t.startTiming test tbf).output = t.output ∧ (t.startTiming test tbf).testTrip = t.testTrip := by
  unfold Trip.startTiming
  split_ifs <;> exact ⟨rfl, rfl⟩

/-- Step 5 of R144 asserts the output of its mode alone (R148, R161). -/
theorem State.tripOutput_outputs (s : State) (h : Handed) (test : Bool) (k : Nat) :
    ((s.tripOutput h test k).output = true → s.trip.output = true ∨ test = false)
      ∧ ((s.tripOutput h test k).testTrip = true → s.trip.testTrip = true ∨ test = true) := by
  have hdrive (v : Bool) : ((s.trip.drive test v).output = true → s.trip.output = true ∨ test = false)
      ∧ ((s.trip.drive test v).testTrip = true → s.trip.testTrip = true ∨ test = true) := by
    cases test
    · exact ⟨fun _ => .inr rfl, .inl⟩
    · exact ⟨.inl, fun _ => .inr rfl⟩
  unfold State.tripOutput
  dsimp only
  split_ifs
  · rw [(Trip.startTiming_outputs ..).1, (Trip.startTiming_outputs ..).2]
    exact hdrive true
  · exact ⟨.inl, .inl⟩
  · exact hdrive false
  · exact ⟨.inl, .inl⟩

theorem State.works_tripUnit (s : State) (hs : s.Closing) (h : Handed) (k : Nat) : s.Works (s.tripUnit h k) := by
  have hsame (u : State) (hu : u.Closing) {t : Trip}
      (heq : t.output = u.trip.output ∧ t.testTrip = u.trip.testTrip) : u.Works (u.withTrip t) :=
    u.works_withTrip hu (fun ho => .inl (heq.1 ▸ ho)) (fun ht => .inl (heq.2 ▸ ht))
  have hsteps (u v : State) (f : State → Trip) (huv : u.Works v) (hu : u.Closing)
      (hf : (f v).output = v.trip.output ∧ (f v).testTrip = v.trip.testTrip) : u.Works (v.withTrip (f v)) :=
    huv.trans (hsame v (huv.closing hu) hf)
  have h0 := s.works_takeFaults (s.tripReports k)
  have h1 := hsteps s _ State.tripSums h0 hs (State.tripSums_outputs _)
  have h2 := hsteps s _ (·.tripRequests k) h1 hs ⟨rfl, rfl⟩
  have h3 := hsteps s _ State.tripBf h2 hs (State.tripBf_outputs _)
  have h4 := hsteps s _ (·.tripCauses h) h3 hs ⟨rfl, rfl⟩
  refine h4.trans (State.works_withTrip _ (h4.closing hs) ?_ ?_)
  · rw [(Trip.setState_outputs ..).1]
    exact (State.tripOutput_outputs ..).1
  · rw [(Trip.setState_outputs ..).2]
    exact (State.tripOutput_outputs ..).2

theorem State.works_protectionWork (s : State) (hs : s.Closing) : s.Works s.protectionWork := by
  unfold State.protectionWork
  split
  · exact .refl s
  · next c _ =>
    have hzone := s.works_zoneWork c
    have hcheck := hzone.trans (State.works_datapathCheck _ c.index)
    exact hcheck.trans (State.works_tripUnit _ (hcheck.closing hs) _ c.index)

theorem State.works_closureWork (s : State) (hs : s.Closing) (o : OpenSet) : s.Works (s.closureWork o) := by
  have h := (s.works_settle o).trans ((State.works_rosterClosure _).trans
    (State.works_clockClosure _ s.asm.fit s.asm.misfit))
  exact h.trans (State.works_protectionWork _ (h.closing hs))

/-! ### Closures -/

theorem State.keeps_abortClosure (s t : State) : s.Keeps (s.abortClosure t) := by
  refine State.keeps_of_leaveMode rfl ?_ rfl rfl rfl rfl
  unfold State.abortClosure
  dsimp only
  split_ifs
  · exact Diff.addFault_keeps _
  · exact .refl _

theorem State.keeps_recheckBlock (s : State) : s.Keeps s.recheckBlock := by
  have hcount : s.Keeps { s with sup := { s.sup with recheck := 0 } } :=
    State.keeps_of_eq rfl rfl rfl rfl rfl rfl rfl
  unfold State.recheckBlock
  dsimp only
  split_ifs
  · exact hcount
  · exact hcount.trans (State.keeps_halt _ _ _)

theorem State.keeps_recheckClosure (s : State) : s.Keeps s.recheckClosure := by
  unfold State.recheckClosure
  split_ifs
  · exact .refl s
  · exact s.keeps_recheckBlock
  · exact State.keeps_of_eq rfl rfl rfl rfl rfl rfl rfl

theorem State.closing_of_working {s : State} (h : s.working = true) : s.Closing := by
  rcases (s.working_iff.1 h).1 with hm | hm
  · exact .inl hm
  · exact .inr (.inl hm)

/-- A closure of a station at work: finished in its mode, or abandoned in HALTED. -/
theorem State.keeps_closeHead (s : State) (h : s.working = true) : s.Keeps s.closeHead := by
  rcases s.closeHead_cases with ⟨-, heq⟩ | ⟨o, rest, -, ⟨hrun, heq⟩ | ⟨-, heq⟩⟩ <;> rw [heq]
  · exact .refl s
  · have hwork := s.works_closureWork (State.closing_of_working h) o
    refine State.Keeps.trans ⟨hwork.toUnitsKeep, ?_⟩ (State.keeps_recheckClosure _)
    rcases hwork.trip with hm | ⟨-, htrip⟩
    · simp [State.isHalted, hm] at hrun
    · exact htrip
  · exact s.keeps_abortClosure _

/-- A complete set is that of a station at work. -/
theorem State.working_of_headComplete {s : State} (h : s.headComplete = true) : s.working = true := by
  unfold State.headComplete at h
  split at h
  · exact absurd h (by simp)
  · exact (Bool.and_eq_true_iff.1 h).1

/-- A deadline is that of a station at work. -/
theorem State.working_of_headDue {s : State} (h : s.headDue = true) : s.working = true := by
  unfold State.headDue at h
  split at h
  · exact absurd h (by simp)
  · rw [Bool.and_assoc] at h
    exact (Bool.and_eq_true_iff.1 h).1

theorem State.keeps_closeComplete (s : State) : s.Keeps s.closeComplete := by
  unfold State.closeComplete
  generalize s.asm.openSets.length = n
  induction n generalizing s with
  | zero => exact .refl s
  | succ n ih =>
    unfold State.closeCompleteN
    split_ifs with h
    · exact (s.keeps_closeHead (State.working_of_headComplete h)).trans (ih _)
    · exact .refl s

theorem State.keeps_deadline (s : State) : s.Keeps s.deadline := by
  unfold State.deadline
  split_ifs with h
  · exact (s.keeps_closeHead (State.working_of_headDue h)).trans (State.keeps_closeComplete _)
  · exact .refl s

theorem State.keeps_overdue (s : State) : s.Keeps s.overdue := by
  unfold State.overdue
  generalize s.asm.openSets.length = n
  induction n generalizing s with
  | zero => exact .refl s
  | succ n ih =>
    unfold State.overdueN
    split_ifs
    · exact s.keeps_deadline.trans (ih _)
    · exact .refl s

theorem State.keeps_evaluateSet (s : State) (k : Nat) : s.Keeps (s.evaluateSet k) := by
  unfold State.evaluateSet
  split
  · exact .refl s
  · split_ifs
    · exact s.keeps_closeComplete
    · exact .refl s

/-! ### The end of a conversion -/

theorem State.keeps_writeSlot (s : State) (k : Nat) (n : Station) (b : SlotBody) : s.Keeps (s.writeSlot k n b) :=
  State.keeps_of_eq rfl rfl rfl rfl rfl rfl rfl

theorem State.keeps_onEntry (s : State) (n : Station) (f : Entry → Entry) : s.Keeps (s.onEntry n f) :=
  State.keeps_of_eq rfl rfl rfl rfl rfl rfl rfl

theorem State.keeps_bay (s : State) (b : Bay) : s.Keeps { s with bay := b } :=
  State.keeps_of_eq rfl rfl rfl rfl rfl rfl rfl

theorem State.keeps_svc (s : State) (v : Service) : s.Keeps { s with svc := v } :=
  State.keeps_of_eq rfl rfl rfl rfl rfl rfl rfl

/-- A change of the Mode Controller that leaves the mode and what is reported of TRIP. -/
theorem State.keeps_ctl (s : State) {c : Ctl} (hmode : c.mode = s.ctl.mode)
    (hreported : c.tripReported = s.ctl.tripReported) : s.Keeps { s with ctl := c } :=
  State.keeps_of_eq rfl rfl rfl rfl rfl hmode hreported

theorem State.keeps_damageSlot (s : State) (k : Nat) (n : Station) : s.Keeps (s.damageSlot k n) :=
  (s.keeps_writeSlot k n .damaged).trans (State.keeps_takeFault _ _)

theorem State.keeps_fillOwn (s : State) (r : OwnRecord) : s.Keeps (s.fillOwn r) := by
  unfold State.fillOwn
  split
  · dsimp only
    split_ifs
    · exact s.keeps_damageSlot _ _
    · exact s.keeps_writeSlot _ _ _
    · exact .refl s
  · exact .refl s

theorem State.keeps_serveRequest (s : State) : s.Keeps s.serveRequest := by
  unfold State.serveRequest
  split_ifs
  · exact s.keeps_link (Link.both_keeps _ (PathCtl.placeOther_keeps _))
  · exact s.keeps_link (Link.both_keeps _ (PathCtl.placeOther_keeps _))
  · exact .refl s

theorem State.keeps_sendRecord (s : State) (r : OwnRecord) : s.Keeps (s.sendRecord r) := by
  unfold State.sendRecord
  split_ifs
  · have hplaced := s.keeps_link
      (Link.both_keeps s.link (PathCtl.placeSample_keeps (wireFrame s.header (s.samplePayload r))))
    exact hplaced.trans ((State.keeps_serveRequest _).trans
      (State.keeps_link _ (Link.both_keeps _ PathCtl.begin_keeps)))
  · exact .refl s

theorem State.keeps_handRecord (s : State) (r : OwnRecord) : s.Keeps (s.handRecord r) :=
  (s.keeps_bay { s.bay with record := some r }).trans ((State.keeps_sendRecord _ r).trans
    ((State.keeps_fillOwn _ r).trans (State.keeps_evaluateSet _ r.index)))

theorem State.keeps_endTimeout (s : State) : s.Keeps s.endTimeout :=
  (s.keeps_bay _).trans (State.keeps_handRecord _ _)

theorem State.keeps_endRead (s : State) (codes : PerPhase Int) (ref : Int) : s.Keeps (s.endRead codes ref) :=
  (s.keeps_bay _).trans (State.keeps_handRecord _ _)

/-! ### The self-test -/

theorem State.keeps_toStep (s : State) (n : Nat) : s.Keeps (s.toStep n) := s.keeps_ctl rfl rfl

theorem State.keeps_startLoop (s : State) (p : Path) : s.Keeps (s.startLoop p) := s.keeps_ctl rfl rfl

theorem State.keeps_endLoops (s : State) : s.Keeps s.endLoops := s.keeps_ctl rfl rfl

theorem State.keeps_startStep3 (s : State) : s.Keeps s.startStep3 := by
  unfold State.startStep3
  dsimp only
  split_ifs
  · exact (s.keeps_toStep 3).trans (State.keeps_startLoop _ _)
  · exact (s.keeps_toStep 3).trans (State.keeps_startLoop _ _)
  · exact (s.keeps_toStep 3).trans (State.keeps_endLoops _)

theorem State.keeps_nextLoop (s : State) (p : Path) : s.Keeps (s.nextLoop p) := by
  unfold State.nextLoop
  split
  · split_ifs
    · exact s.keeps_startLoop .b
    · exact s.keeps_endLoops
  · exact s.keeps_endLoops

theorem State.keeps_endLoop (s : State) (p : Path) (passed : Bool) : s.Keeps (s.endLoop p passed) :=
  (s.keeps_link (Link.onPath_keeps _ p (PathCtl.loopResult_keeps passed))).trans (State.keeps_nextLoop _ p)

theorem State.keeps_startAttempt (s : State) : s.Keeps s.startAttempt :=
  State.keeps_of_eq rfl rfl rfl rfl rfl rfl rfl

theorem State.keeps_endAttempt (s : State) (passed : Bool) : s.Keeps (s.endAttempt passed) := by
  have hidle : s.Keeps { s with bay := { s.bay with conv := .idle, convLine := false } } := s.keeps_bay _
  unfold State.endAttempt
  dsimp only
  split_ifs
  · exact hidle.trans (State.keeps_startStep3 _)
  · exact hidle.trans (State.keeps_halt _ _ _)
  · exact hidle

theorem State.keeps_checkStored (s : State) : s.Keeps s.checkStored := by
  unfold State.checkStored
  split_ifs
  · exact s.keeps_ctl rfl rfl
  · exact .refl s

theorem State.keeps_clearStorage (s : State) : s.Keeps s.clearStorage :=
  ⟨⟨rfl, s.diff.keeps_emptyRings, fun _ => id, id⟩, id⟩

theorem State.keeps_enterConfig (s : State) : s.Keeps s.enterConfig :=
  State.keeps_of_leaveMode rfl (.refl _) rfl rfl rfl rfl

/-- The entry values release TRIP and the test trip, whatever stood before (R162). -/
theorem State.keeps_entryValues (s : State) (test : Bool) : s.Keeps (s.entryValues test) := by
  refine ⟨⟨rfl, s.diff.entry_keeps, fun p => ?_, fun h => h.entry test⟩, fun _ => ?_⟩
  · cases test
    · cases p <;> exact PathCtl.entry_keeps _
    · exact id
  · exact State.Released.tripSafe ⟨rfl, rfl, rfl⟩

theorem State.keeps_enterRun (s : State) : s.Keeps s.enterRun :=
  s.keeps_leaveMode.trans (State.keeps_entryValues _ false)

theorem State.keeps_enterTest (s : State) : s.Keeps s.enterTest :=
  s.keeps_leaveMode.trans (State.keeps_entryValues _ true)

theorem State.keeps_endSelftest (s : State) : s.Keeps s.endSelftest := by
  unfold State.endSelftest
  split_ifs
  · exact s.keeps_enterRun
  · exact s.keeps_enterConfig

/-! ### Resets -/

theorem State.keeps_coldValues (s : State) : s.Keeps s.coldValues := by
  refine ⟨⟨rfl, s.diff.keeps_initial, fun p _ => ?_, fun _ => Clock.InRange.cold⟩,
    fun _ => State.Released.tripSafe ⟨rfl, rfl, rfl⟩⟩
  cases p <;> exact PathCtl.initial_consistent _ _

theorem State.keeps_warmValues (s : State) : s.Keeps s.warmValues := by
  refine ⟨⟨rfl, s.diff.keeps_initial, fun p _ => ?_, fun h => ⟨Clock.InRange.cold.1, h.2⟩⟩,
    fun _ => State.Released.tripSafe ⟨rfl, rfl, rfl⟩⟩
  cases p <;> exact PathCtl.initial_consistent _ _

/-! ### The passage of ticks and the timed rows -/

theorem State.keeps_takeStep (s : State) : s.Keeps s.takeStep := by
  rcases s.takeStep_cases with heq | ⟨b, -, -, -, heq⟩ <;> rw [heq]
  · exact .refl s
  · exact ⟨⟨rfl, s.diff.clearWindows_keeps, fun _ => id, fun h => h.step b⟩, id⟩

theorem State.keeps_settleDue (s : State) : s.Keeps s.settleDue := s.keeps_takeStep.trans (State.keeps_overdue _)

theorem State.keeps_takeTimed (s : State) (e : Timed) : s.Keeps (s.takeTimed e) := by
  cases e with
  | adc =>
    unfold State.takeTimed
    split_ifs
    · exact s.keeps_endTimeout
    · exact s.keeps_endAttempt false
  | pps => exact s.keeps_clock fun h => h.ppsSilent
  | mark => exact s.keeps_clock fun h => h.missMark
  | attempt => exact s.keeps_startAttempt
  | loop =>
    simp only [State.takeTimed]
    split
    · exact s.keeps_endLoop _ _
    · exact .refl s

theorem State.keeps_takeDue (s : State) (e : Timed) : s.Keeps (s.takeDue e) := by
  unfold State.takeDue
  split_ifs
  · exact s.keeps_takeTimed e
  · exact .refl s

theorem State.keeps_pass (s : State) (n : Nat) : s.Keeps (s.pass n) :=
  State.pass_keeps (P := s.Keeps) (fun u n h => h.trans (u.keeps_elapse n)) (fun u e h => h.trans (u.keeps_takeTimed e))
    n (.refl s)

theorem State.keeps_timedRow (s : State) (e : Timed) : s.Keeps (s.timedRow e) := by
  rcases s.timedRow_cases e with heq | ⟨n, -, -, heq⟩ <;> rw [heq]
  · exact s.keeps_settleDue
  · exact s.keeps_settleDue.trans ((State.keeps_pass _ n).trans (State.keeps_takeDue _ e))

theorem State.keeps_readDone (s : State) (bits : BitVec 64) : s.Keeps (s.readDone bits) := by
  unfold State.readDone
  dsimp only
  split_ifs
  · exact s.keeps_endRead _ _
  · exact s.keeps_endAttempt _
  · exact .refl s

theorem State.keeps_instantNow (s : State) : s.Keeps s.instantNow :=
  ⟨⟨rfl, .refl _, fun _ => id, fun h => h.instant _ _⟩, id⟩

theorem State.keeps_timeOut (s : State) : s.Keeps s.timeOut := s.keeps_svc _

theorem State.keeps_loadTimeout (s : State) : s.Keeps s.loadTimeout := by
  unfold State.loadTimeout
  dsimp only
  split_ifs
  · exact s.keeps_settleDue.trans ((State.keeps_pass _ _).trans (State.keeps_timeOut _))
  · exact s.keeps_settleDue

/-! ### The arrival of a frame -/

theorem State.keeps_onPath (s : State) (p : Path) {f : PathCtl → PathCtl} (h : ∀ c : PathCtl, c.Keeps (f c)) :
    s.Keeps (s.onPath p f) :=
  s.keeps_link (Link.onPath_keeps _ p h)

theorem State.keeps_rosterTake (s : State) (p : Path) (f : Frame) : s.Keeps (s.rosterTake p f) := by
  have hhear := s.keeps_onEntry f.sender fun e => e.hear s.ownSig f
  unfold State.rosterTake
  dsimp only
  split
  · exact hhear
  · split_ifs
    · exact hhear
    · exact hhear.trans (State.keeps_of_eq rfl rfl rfl rfl rfl rfl rfl)
  · split_ifs
    · exact hhear
    · rw [State.viewAfterStatus_eq]
      exact hhear.trans (State.keeps_of_eq rfl rfl rfl rfl rfl rfl rfl)

theorem State.keeps_noteFit (s : State) (n : Station) : s.Keeps (s.noteFit n) := by
  unfold State.noteFit
  split_ifs
  · exact State.keeps_of_eq rfl rfl rfl rfl rfl rfl rfl
  · exact .refl s

theorem State.keeps_noteMisfit (s : State) (n : Station) : s.Keeps (s.noteMisfit n) := by
  unfold State.noteMisfit
  split_ifs
  · exact State.keeps_of_eq rfl rfl rfl rfl rfl rfl rfl
  · exact .refl s

theorem State.keeps_meetSlot (s : State) (o : OpenSet) (p : Path) (f : Frame) (c : Contribution) :
    s.Keeps (s.meetSlot o p f c) := by
  unfold State.meetSlot
  dsimp only
  split_ifs
  · exact s.keeps_damageSlot _ _
  · split
    · exact .refl s
    · exact (s.keeps_writeSlot _ _ _).trans (State.keeps_noteFit _ _)
    · exact (s.keeps_writeSlot _ _ _).trans (State.keeps_onEntry _ _ _)

theorem State.keeps_assemblerTake (s : State) (p : Path) (f : Frame) : s.Keeps (s.assemblerTake p f) := by
  unfold State.assemblerTake
  split
  · exact .refl s
  · exact .refl s
  · split_ifs
    · exact .refl s
    · split
      · exact .refl s
      · exact (s.keeps_onEntry _ _).trans (State.keeps_noteMisfit _ _)
      · exact (s.keeps_onEntry _ _).trans (State.keeps_noteMisfit _ _)
      · split
        · exact .refl s
        · exact s.keeps_meetSlot _ _ _ _

theorem State.keeps_clockTake (s : State) (f : Frame) : s.Keeps (s.clockTake f) := by
  unfold State.clockTake
  split_ifs
  · refine s.keeps_clock fun h => ?_
    have hcodes : ({ s.clock with codes := s.clock.codes.set f.sender f.sync } : Clock).InRange := h
    split_ifs
    · exact hcodes.use _ _ _ _
    · exact hcodes
  · exact .refl s

theorem State.keeps_handOver (s : State) (p : Path) (f : Frame) : s.Keeps (s.handOver p f) := by
  have htaken := (s.keeps_rosterTake p f).trans (State.keeps_assemblerTake _ p f)
  unfold State.handOver
  dsimp only
  split_ifs
  · exact htaken.trans ((State.keeps_evaluateSet _ _).trans (State.keeps_clockTake _ f))
  · exact htaken.trans (State.keeps_clockTake _ f)

theorem State.keeps_hearOwn (s : State) : s.Keeps s.hearOwn := by
  refine ⟨⟨rfl, ?_, fun _ => id, id⟩, id⟩
  unfold State.hearOwn
  dsimp only
  split_ifs
  · exact .refl _
  · exact s.diff.addConflict_keeps

theorem State.keeps_judgeFrame (s : State) (p : Path) (bytes : List Byte) (e : Bool) :
    s.Keeps (s.judgeFrame p bytes e) := by
  have haccept (f : Frame) : s.Keeps (s.acceptFrame p f) := by
    have hcredit := s.keeps_onPath p PathCtl.credit_keeps
    unfold State.acceptFrame
    dsimp only
    split_ifs
    · exact hcredit.trans (State.keeps_handOver _ p f)
    · exact hcredit
  unfold State.judgeFrame
  split_ifs
  · exact s.keeps_onPath p PathCtl.badFcs_keeps
  · exact .refl s
  · split
    · exact s.keeps_onPath p PathCtl.badPayload_keeps
    · unfold State.judgeSender State.judgeOwn
      split_ifs
      · exact s.keeps_hearOwn
      · exact .refl s
      · exact haccept _
      · exact s.keeps_onPath p PathCtl.badSender_keeps

/-! ### The service line -/

theorem State.keeps_reply (s : State) (lines : List ReplyLine) : s.Keeps (s.reply lines) := s.keeps_svc _

theorem State.keeps_replyError (s : State) (e : ErrLine) : s.Keeps (s.replyError e) := s.keeps_svc _

theorem State.keeps_replyOk (s : State) : s.Keeps s.replyOk := s.keeps_svc _

theorem State.keeps_carryOut (s : State) (c : Command) (rest : List (List Byte)) : s.Keeps (s.carryOut c rest) := by
  cases c with
  | load => exact .refl s
  | commit =>
    unfold State.carryOut State.doCommit
    dsimp only
    split
    · exact s.keeps_replyError _
    · exact .trans (t := { s with ctl := { s.ctl with store := .committed } }) (s.keeps_ctl rfl rfl)
        ((State.keeps_enterRun _).trans (State.keeps_replyOk _))
  | test =>
    unfold State.carryOut State.doTest
    dsimp only
    split
    · exact s.keeps_replyError _
    · exact s.keeps_enterTest.trans (State.keeps_replyOk _)
  | endtest => exact s.keeps_enterConfig.trans (State.keeps_replyOk _)
  | stop =>
    unfold State.carryOut State.doStop
    dsimp only
    split_ifs
    · exact s.keeps_replyError _
    · exact (s.keeps_halt _ _).trans (State.keeps_replyOk _)
  | warm => exact s.keeps_svc _
  | ack => exact .trans (t := s.acknowledge) (State.keeps_of_eq rfl rfl rfl rfl rfl rfl rfl) (State.keeps_replyOk _)
  | examine =>
    unfold State.carryOut State.doExamine
    dsimp only
    split
    · exact s.keeps_replyError _
    · exact s.keeps_svc _

theorem State.keeps_interpret (s : State) (l : Line) : s.Keeps (s.interpret l) := by
  unfold State.interpret
  split
  · exact .refl s
  · split_ifs
    · exact s.keeps_replyError _
    · exact s.keeps_replyError _
    · exact s.keeps_svc _
    · exact s.keeps_replyError _
    · unfold State.runCommand
      split
      · exact s.keeps_replyError _
      · split_ifs
        · exact s.keeps_replyError _
        · exact s.keeps_replyError _
        · exact s.keeps_carryOut _ _

theorem State.keeps_lateLoad (s : State) : s.Keeps s.lateLoad := by
  unfold State.lateLoad
  split_ifs
  · exact s.keeps_timeOut
  · exact .refl s

theorem State.keeps_clearLine (s : State) : s.Keeps s.clearLine := s.keeps_svc _

theorem State.keeps_endLine (s : State) (l : Line) : s.Keeps (s.endLine l) := by
  unfold State.endLine
  dsimp only
  split_ifs
  · exact s.keeps_svc _
  · exact s.keeps_clearLine.trans (State.keeps_interpret _ l)

theorem State.keeps_lineCommand (s : State) (row : LineRow) (chars : List Byte) (framing : Bool) :
    s.Keeps (s.lineCommand row chars framing) := by
  unfold State.lineCommand
  dsimp only
  split_ifs
  · exact s.keeps_lateLoad.trans (State.keeps_endLine _ _)
  · exact s.keeps_lateLoad

theorem State.keeps_lateByte (s : State) (byte : Byte) (framing : Bool) : s.Keeps (s.lateByte byte framing) := by
  unfold State.lateByte
  dsimp only
  split_ifs
  · exact s.keeps_clearLine
  · exact s.keeps_endLine _
  · exact s.keeps_svc _

theorem State.keeps_endReply (s : State) : s.Keeps s.endReply := by
  have hcollecting := s.keeps_svc { s.svc with iface := .collecting, reply := [], held := none }
  unfold State.endReply
  dsimp only
  split_ifs
  · exact s.keeps_warmValues
  · split
    · exact hcollecting
    · exact hcollecting.trans (State.keeps_interpret _ _)

theorem State.keeps_loadByte (s : State) (i : IfState) (byte : Byte) (framing : Bool) {f : State → State}
    (h : ∀ u : State, u.Keeps (f u)) : s.Keeps (s.loadByte i byte framing f) := by
  unfold State.loadByte
  split_ifs
  · exact .refl s
  · exact s.keeps_timeOut.trans (State.keeps_lateByte _ byte framing)
  · exact h s

theorem State.keeps_judgeLoad (s : State) (byte : Byte) (framing : Bool) : s.Keeps (s.judgeLoad byte framing) := by
  unfold State.judgeLoad
  split_ifs
  iterate 5 exact s.keeps_replyError _
  exact State.keeps_of_eq rfl rfl rfl rfl rfl rfl rfl

theorem State.keeps_judgeData (s : State) (byte : Byte) (framing : Bool) : s.Keeps (s.judgeData byte framing) := by
  unfold State.judgeData
  split_ifs
  · exact s.keeps_replyError _
  · exact s.keeps_replyError _
  · exact State.keeps_of_eq rfl rfl rfl rfl rfl rfl rfl

/-! ### Every command -/

/-- A command that acts under a condition and else leaves the state (assumption log 1). -/
theorem State.keeps_guard {s t : State} {c : Prop} [Decidable c] (h : c → s.Keeps t) :
    s.Keeps (if c then t else s) := by
  split_ifs with hc
  · exact h hc
  · exact .refl s

/-- Every command completes with its outputs driven, and keeps the queue and every invariant. -/
theorem exec_keeps (i : Instr) (s : State) : ∃ u, exec i s = .next u.driven ∧ s.Keeps u := by
  have hrow (row : LineRow) (chars : List Byte) (framing : Bool) :
      ∃ u, answer (s.lineCommand row chars framing) = .next u.driven ∧ s.Keeps u :=
    ⟨_, rfl, s.keeps_lineCommand row chars framing⟩
  have htimed (e : Timed) : ∃ u, answer (s.timedRow e) = .next u.driven ∧ s.Keeps u := ⟨_, rfl, s.keeps_timedRow e⟩
  cases i with
  | coldReset =>
    exact ⟨_, rfl, .trans (t := { s with pins := { s.pins with porstLow := true } })
      (State.keeps_of_eq rfl rfl rfl rfl rfl rfl rfl) (State.keeps_coldValues _)⟩
  | porstRise stn pben =>
    exact ⟨_, rfl, State.keeps_guard fun _ => .trans (t := { s with
      pins := { s.pins with porstLow := false }, ctl := { s.ctl with strap := stn.toNat, pben := pben } })
      (State.keeps_of_eq rfl rfl rfl rfl rfl rfl rfl) (State.keeps_coldValues _)⟩
  | warmReset =>
    refine ⟨_, rfl, ?_⟩
    have hpin : s.Keeps { s with pins := { s.pins with wrstLow := true } } :=
      State.keeps_of_eq rfl rfl rfl rfl rfl rfl rfl
    split_ifs
    · exact hpin
    · exact hpin.trans (State.keeps_warmValues _)
  | wrstRise =>
    refine ⟨_, rfl, State.keeps_guard fun _ => ?_⟩
    have hpin : s.Keeps { s with pins := { s.pins with wrstLow := false } } :=
      State.keeps_of_eq rfl rfl rfl rfl rfl rfl rfl
    split_ifs
    · exact hpin
    · exact hpin.trans (State.keeps_warmValues _)
  | storageTest passed =>
    refine ⟨_, rfl, State.keeps_guard fun _ => s.keeps_clearStorage.trans ?_⟩
    dsimp only
    split_ifs
    · exact State.keeps_halt _ _ _
    · exact (State.keeps_toStep _ 6).trans (State.keeps_halt _ _ _)
    · exact (State.keeps_checkStored _).trans (State.keeps_of_eq rfl rfl rfl rfl rfl rfl rfl)
  | conversionAttempt => exact htimed .attempt
  | loopbackReturn frame e =>
    refine ⟨_, rfl, ?_⟩
    split
    · exact State.keeps_guard fun _ => s.keeps_endLoop _ _
    · exact .refl s
  | loopbackTimeout => exact htimed .loop
  | mclkCheck count =>
    refine ⟨_, rfl, State.keeps_guard fun _ => ?_⟩
    split_ifs
    · exact (s.keeps_toStep 1).trans (State.keeps_endSelftest _)
    · exact s.keeps_halt _ _
  | sampleInstant contacts blockIn =>
    refine ⟨_, rfl, ?_⟩
    have hdue := s.keeps_settleDue
    have hpassed := hdue.trans ((State.keeps_pass _ s.settleDue.clock.remaining).trans (State.keeps_takeDue _ .adc))
    dsimp only
    split_ifs
    · exact hpassed.trans (.trans (t := State.latchPins _ contacts blockIn)
        (State.keeps_of_eq rfl rfl rfl rfl rfl rfl rfl) (State.keeps_instantNow _))
    · exact hpassed
    · exact hdue
  | travelExpiry d => exact ⟨_, rfl, State.keeps_guard fun _ => s.keeps_bay _⟩
  | drdyRise => exact ⟨_, rfl, s.keeps_takeStep.trans (State.keeps_guard fun _ => State.keeps_bay _ _)⟩
  | adcTimeout => exact htimed .adc
  | readComplete bits =>
    exact ⟨_, rfl, s.keeps_settleDue.trans
      (State.keeps_guard fun _ => (State.keeps_pass _ _).trans (State.keeps_readDone _ bits))⟩
  | ppsEdge =>
    exact ⟨_, rfl, s.keeps_takeStep.trans (State.keeps_guard fun _ => State.keeps_clock _ fun h => h.edge _)⟩
  | ppsTimeout => exact htimed .pps
  | markMissing => exact htimed .mark
  | acquisitionStep => exact ⟨_, rfl, s.keeps_takeStep⟩
  | holdoverLimit => exact ⟨_, rfl, State.keeps_guard fun _ => s.keeps_clock fun h => h.limitHoldover _⟩
  | syncLoss => exact ⟨_, rfl, State.keeps_guard fun _ => s.keeps_clock fun h => h.raiseLoss⟩
  | arrival p frame e =>
    exact ⟨_, rfl, s.keeps_takeStep.trans (State.keeps_guard fun _ => State.keeps_judgeFrame _ p frame e)⟩
  | transmitEnd p =>
    refine ⟨_, rfl, State.keeps_guard fun _ => s.keeps_onPath p fun c => ?_⟩
    split_ifs
    · exact .trans (q := { c with sending := none }) (PathCtl.keeps_of_eq rfl rfl rfl) (PathCtl.begin_keeps _)
    · exact id
  | linkUpFall p =>
    refine ⟨_, rfl, State.keeps_guard fun _ => .trans (t := s.setLup p false)
      (State.keeps_of_eq rfl rfl rfl rfl rfl rfl rfl) ?_⟩
    split_ifs
    · exact ⟨⟨rfl, .refl _, Link.onPath_keeps _ p PathCtl.goDown_keeps, id⟩, id⟩
    · exact .refl _
  | linkUpRise p =>
    refine ⟨_, rfl, ?_⟩
    split_ifs
    · exact .refl s
    · exact ⟨⟨rfl, .refl _, Link.onPath_keeps _ p PathCtl.comeUp_keeps, id⟩, id⟩
    · exact State.keeps_of_eq rfl rfl rfl rfl rfl rfl rfl
  | conflictClear =>
    exact ⟨_, rfl, State.keeps_guard fun _ => ⟨⟨rfl, s.diff.dropConflict_keeps, fun _ => id, id⟩, id⟩⟩
  | peerSilent n => exact ⟨_, rfl, State.keeps_guard fun _ => s.keeps_onEntry n _⟩
  | setDeadline => exact ⟨_, rfl, s.keeps_takeStep.trans (State.keeps_deadline _)⟩
  | endOpen n => exact ⟨_, rfl, State.keeps_guard fun _ => State.keeps_of_eq rfl rfl rfl rfl rfl rfl rfl⟩
  | holdCounterExpiry g => exact ⟨_, rfl, State.keeps_guard fun _ => s.keeps_diff (s.diff.keeps_latches _)⟩
  | dropOffExpiry slot =>
    refine ⟨_, rfl, State.keeps_guard fun _ => ?_⟩
    cases slot with
    | group g =>
      exact s.keeps_diff (s.diff.keeps_setGroup g (Slot.keeps_expireDropOff s.diff _ s.windowW) s.diff.latches)
    | check =>
      exact s.keeps_diff (Diff.keeps_of_slots id (fun g => .refl _ _) (Slot.keeps_expireDropOff s.diff _ s.windowW))
  | bfTimerExpiry =>
    refine ⟨_, rfl, State.keeps_guard fun h => ?_⟩
    have hrun : s.inRun = true := by
      simp only [Bool.and_eq_true] at h
      exact h.1.1
    have hout := s.declareBf_outputs
    refine ⟨⟨rfl, .refl _, fun _ => id, id⟩, fun hsafe => ⟨fun _ => ?_, fun ht => ?_, rfl⟩⟩
    · exact (s.inRun_iff.1 hrun).1
    · exact hsafe.2.1 (hout.2 ▸ ht)
  | minimumTimeExpiry =>
    refine ⟨_, rfl, State.keeps_guard fun _ =>
      ⟨⟨rfl, .refl _, fun _ => id, id⟩, fun hsafe => ⟨fun ho => ?_, fun ht => ?_, rfl⟩⟩⟩
    · cases hin : s.inTest
      · simp [State.withTrip, Trip.drive, hin] at ho
      · exact hsafe.1 (by simpa [State.withTrip, Trip.drive, hin] using ho)
    · cases hin : s.inTest
      · exact hsafe.2.1 (by simpa [State.withTrip, Trip.drive, hin] using ht)
      · simp [State.withTrip, Trip.drive, hin] at ht
  | configRecheck => exact ⟨_, rfl, State.keeps_guard fun _ => s.keeps_recheckBlock⟩
  | lineDropped chars =>
    exact ⟨_, rfl, s.keeps_lateLoad.trans (State.keeps_guard fun _ => State.keeps_clearLine _)⟩
  | illCmd chars framing => exact hrow .illCmd chars framing
  | replyEnd =>
    refine ⟨_, rfl, ?_⟩
    split_ifs
    · exact .refl s
    · exact s.keeps_endReply
    · exact s.keeps_svc _
  | load chars => exact hrow .load chars false
  | loadChecksumByte byte framing =>
    exact ⟨_, rfl, s.keeps_loadByte _ _ _ fun u => u.keeps_judgeLoad byte framing⟩
  | loadSumTimeout => exact ⟨_, rfl, State.keeps_guard fun _ => s.keeps_loadTimeout⟩
  | loadDataByte byte framing => exact ⟨_, rfl, s.keeps_loadByte _ _ _ fun u => u.keeps_svc _⟩
  | loadDataChecksum byte framing =>
    exact ⟨_, rfl, s.keeps_loadByte _ _ _ fun u => u.keeps_judgeData byte framing⟩
  | loadDataTimeout => exact ⟨_, rfl, State.keeps_guard fun _ => s.keeps_loadTimeout⟩
  | commit chars => exact hrow .commit chars false
  | test chars => exact hrow .test chars false
  | endtest chars => exact hrow .endtest chars false
  | stop chars => exact hrow .stop chars false
  | warm chars => exact hrow .warm chars false
  | ack chars => exact hrow .ack chars false
  | examine chars => exact hrow .examine chars false
  | examineNext chars => exact hrow .examineNext chars false
  | examineAgain chars => exact hrow .examineAgain chars false
  | characterReceived byte framing =>
    exact ⟨_, rfl, s.keeps_lateLoad.trans (State.keeps_guard fun _ => State.keeps_svc _ _)⟩
  | promptLfSent => exact ⟨_, rfl, s.keeps_lateLoad.trans (State.keeps_guard fun _ => State.keeps_svc _ _)⟩

/-! ### The step -/

/-- Taking the command at the front of the queue touches no invariant, nor does a tick: a step keeps them all. -/
theorem step_keeps {s t : State} (h : step s = .next t) : { s with pending := t.pending }.Keeps t := by
  have hexec {i : Instr} {u : State} (hu : exec i u = .next t) : u.Keeps t := by
    obtain ⟨v, heq, hv⟩ := exec_keeps i u
    rw [heq, Host.Outcome.next.injEq] at hu
    exact hu ▸ hv.trans v.keeps_driven
  have hqueue {u : State} (hu : u.Keeps t) (heq : { s with pending := u.pending } = u) :
      { s with pending := t.pending }.Keeps t := by
    rwa [hu.pending, heq]
  unfold step at h
  split at h
  · exact hqueue (hexec h) rfl
  · split at h
    · exact hqueue (hexec h) rfl
    · rw [answer_eq_next] at h
      exact hqueue (h ▸ (s.keeps_elapse 1).trans (State.keeps_driven _)) rfl

/-- Settles O56: TRIP and the test trip are asserted by a finished closure alone, in its mode, and released wherever
the mode leaves RUN or TEST. -/
theorem stepKeepsTripSafe : Obligations.StepKeepsTripSafe := by
  unfold Obligations.StepKeepsTripSafe
  exact fun s t hs h => (step_keeps h).trip hs

/-- Settles O57: a change of reasons takes what it blocks out of OPERATE, and step 6 puts no BLOCKED slot into it. -/
theorem stepKeepsBlockSafe : Obligations.StepKeepsBlockSafe := by
  unfold Obligations.StepKeepsBlockSafe
  exact fun s t hs h => (step_keeps h).diff.block hs

/-- Settles O58: each change of a window is one of its ring, with the sums and counts that follow the ring. -/
theorem stepKeepsWindowsSafe : Obligations.StepKeepsWindowsSafe := by
  unfold Obligations.StepKeepsWindowsSafe
  exact fun s t hs h => (step_keeps h).diff.windows hs

/-- Settles O59: a path's state is evaluated from its count wherever the count changes, and follows its line. -/
theorem stepKeepsPathsConsistent : Obligations.StepKeepsPathsConsistent := by
  unfold Obligations.StepKeepsPathsConsistent
  exact fun s t ha hb h => ⟨(step_keeps h).paths .a ha, (step_keeps h).paths .b hb⟩

/-- Settles O60: every index is taken modulo 48,000, and a drift count sets a trim clamped to ±512. -/
theorem stepKeepsClockInRange : Obligations.StepKeepsClockInRange := by
  unfold Obligations.StepKeepsClockInRange
  exact fun s t hs h => (step_keeps h).clock hs

end Sys2Proof.Machine
end

section
/-! PROOFS. The queue, the output lines after every command (R2, R143, R159, R174, R175), and the reset state. -/

namespace Sys2Proof.Machine

/-! ### The output lines -/

section

variable (s : State)

theorem PathState.bad_iff (p : PathState) : p.bad = true ↔ p = .down ∨ p = .failed := by cases p <;> decide

theorem State.pathAlarm_iff : s.pathAlarm = true ↔ s.link.paths.a.state = .down ∨ s.link.paths.a.state = .failed
    ∨ (s.ctl.pben = true ∧ (s.link.paths.b.state = .down ∨ s.link.paths.b.state = .failed)) := by
  simp only [State.pathAlarm, Bool.or_eq_true, Bool.and_eq_true, PathState.bad_iff, or_assoc]

theorem State.faultOpen_iff : s.faultOpen = true ↔ ∃ r, s.sup.fault = some r ∧ r.acknowledged = false := by
  unfold State.faultOpen
  split
  next r h => simp [h]
  next h => simp [h]

/-- ALARM (R174, R178). -/
theorem State.alarmOut_iff : s.alarmOut = true ↔ s.pins.porstLow = false ∧
    (s.bay.adcLost = true ∨ s.bay.travel = true ∨ s.roster.conflict = true ∨ s.roster.view = true
      ∨ s.clock.syncLoss = true ∨ s.link.paths.a.state = .down ∨ s.link.paths.a.state = .failed
      ∨ (s.ctl.pben = true ∧ (s.link.paths.b.state = .down ∨ s.link.paths.b.state = .failed))
      ∨ (∃ r, s.sup.fault = some r ∧ r.acknowledged = false) ∨ s.ctl.mode = .halted) := by
  simp only [State.alarmOut, AlarmSet.any, State.alarmSet, Bool.and_eq_true, Bool.not_eq_true', Bool.or_eq_true,
    State.pathAlarm_iff, State.faultOpen_iff, beq_iff_eq, or_assoc]

/-- PROT READY (R159). -/
theorem State.protReadyOut_iff : s.protReadyOut = true ↔ s.ctl.mode = .run ∧ s.resetHeld = false
    ∧ s.clock.sync.acceptable = true ∧ (∀ g, s.attachedGroup g = true → s.diff.blocked (s.diff.groups.get g) = false)
    ∧ s.diff.blocked s.diff.check = false ∧ s.diff.fault = false := by
  simp only [State.protReadyOut, State.inRun, Bool.and_eq_true, beq_iff_eq, Bool.not_eq_true', List.all_eq_true,
    mem_zones, true_implies, Bool.and_eq_false_imp, and_assoc]

/-- The TRIP line is driven from TRIP in RUN alone (R143). -/
theorem State.tripLineOut_iff :
    s.tripLineOut = true ↔ s.ctl.mode = .run ∧ s.resetHeld = false ∧ s.trip.output = true := by
  simp only [State.tripLineOut, State.inRun, Bool.and_eq_true, beq_iff_eq, Bool.not_eq_true', and_assoc]

/-- A frame in transmission ends the transmit error of its path (R36, R42). -/
theorem State.txErrorOut_of_sending (p : Path) (h : (s.link.paths.get p).sending ≠ none) : s.txErrorOut p = false := by
  rw [State.txErrorOut, Option.isNone_eq_false_iff.2 (Option.isSome_iff_ne_none.2 h), Bool.and_false]

/-- A reset shows 7 (R178, R179). -/
theorem State.statusOut_of_held (h : s.resetHeld = true) : s.statusOut = 7 := by rw [State.statusOut, if_pos h]

/-- STATUS CODE without a reset, by the mode, the step of the self-test and the halt code (R175, R181). -/
theorem State.statusOut_of_free (h : s.resetHeld = false) :
    (s.ctl.mode = .run → s.statusOut = 0) ∧ (s.ctl.mode = .config → s.statusOut = 9)
      ∧ (s.ctl.mode = .test → s.statusOut = 10)
      ∧ (∀ n, s.ctl.mode = .selftest → s.ctl.step = some n → s.statusOut = n)
      ∧ (∀ r, s.ctl.mode = .halted → s.sup.halt = some r → s.statusOut = r.code.pins) := by
  refine ⟨fun hm => ?_, fun hm => ?_, fun hm => ?_, fun n hm hn => ?_, fun r hm hr => ?_⟩ <;>
    simp [State.statusOut, *]

end

/-- Settles O2: every command answers with its outputs driven, and each driven output is read off its rule. -/
theorem commandsCompleteWithOutputsDriven : Obligations.CommandsCompleteWithOutputsDriven := by
  unfold Obligations.CommandsCompleteWithOutputsDriven
  intro c s
  obtain ⟨u, hexec, hkeeps⟩ := exec_keeps c s
  refine ⟨u.driven, hexec, hkeeps.pending, u.alarmOut_iff, u.protReadyOut_iff, u.tripLineOut_iff, rfl, fun p hp => ?_,
    u.statusOut_of_held, fun hfree => ?_⟩
  · rw [State.driven_out, State.outputs_txError]
    exact u.txErrorOut_of_sending p hp
  · obtain ⟨hrun, hconfig, htest, hselftest, hhalted⟩ := u.statusOut_of_free hfree
    refine ⟨hrun, hconfig, htest, hselftest, fun r hm hr => ?_⟩
    have hcode : u.statusOut = r.code.pins := hhalted r hm hr
    exact ⟨fun h => hcode.trans (by rw [h]; rfl), fun h => hcode.trans (by rw [h]; rfl),
      fun h => hcode.trans (by rw [h]; rfl), fun n h => hcode.trans (by rw [h]; rfl)⟩

/-! ### The queue and the reset state -/

/-- Settles O1. -/
theorem stepRunsFrontCommand : Obligations.StepRunsFrontCommand := by
  unfold Obligations.StepRunsFrontCommand
  intro c rest s h
  rw [step, h]

/-- Settles O55: in the reset state TRIP is released, the windows are empty and out of OPERATE, the paths are as a
reset leaves them and the clock is at its cold-reset values. -/
theorem resetIsSafe : Obligations.ResetIsSafe := by
  unfold Obligations.ResetIsSafe
  have hslot (g : Zone) : State.reset.diff.groups.get g = Slot.initial := Tab.get_const _ g
  refine ⟨State.Released.tripSafe ⟨rfl, rfl, rfl⟩, ⟨fun g _ => ?_, fun _ => rfl⟩,
    ⟨fun g => ?_, Slot.initial_windowSafe⟩, PathCtl.initial_consistent _ _, PathCtl.initial_consistent _ _,
    Clock.InRange.cold⟩
  · rw [hslot]
    rfl
  · rw [hslot]
    exact Slot.initial_windowSafe

end Sys2Proof.Machine
end

section
/-! PROOFS. The Bay Input Unit: raw states (R9), the runs of ADC LOST (R8), travel supervision and BLOCK IN (R11 to
R13), and the start of the read (R2). -/

namespace Sys2Proof.Machine

/-! ### Raw states (R9) -/

/-- The debouncing of each device at an instant takes in the raw state of its contacts (R9, R10). -/
theorem State.positions_dev_get (s : State) (d : Device) : s.positions.dev.get d
    = (s.bay.dev.get d).step s.debounceCount (s.travelTime d) (rawState (s.pins.contacts.get d)) := by
  cases d <;> rfl

theorem State.instantNow_cand (s : State) (d : Device) :
    (s.instantNow.bay.dev.get d).cand = some (rawState (s.pins.contacts.get d)) := by
  have hdev : s.instantNow.bay.dev.get d = s.positions.dev.get d := rfl
  rw [hdev, State.positions_dev_get, Debounce.step_cand]

/-- Settles O10: the candidate after an instant is the raw state, which the table of R9 gives from the contacts. -/
theorem rawStates : Obligations.RawStates := by
  unfold Obligations.RawStates
  intro s d
  dsimp only
  rw [State.instantNow_cand]
  refine ⟨?_, ?_, ?_, ?_⟩ <;> (intro hopen hclosed; rw [rawState, hopen, hclosed])

/-! ### ADC LOST (R8) -/

/-- From a failure run of 0, `n` failed instants in a row count up to 3, and ADC LOST is raised from the third on. -/
theorem Bay.judge_false_iterate {b : Bay} (hlost : b.adcLost = false) (hrun : b.failRun = 0) (n : Nat) :
    ((fun x : Bay => x.judge false)^[n] b).failRun = min 3 n
      ∧ ((fun x : Bay => x.judge false)^[n] b).adcLost = decide (3 ≤ n) := by
  induction n with
  | zero => simp [hlost, hrun]
  | succ n ih =>
    rw [Function.iterate_succ_apply']
    generalize (fun x : Bay => x.judge false)^[n] b = c at ih ⊢
    obtain ⟨ihrun, ihlost⟩ := ih
    have hnext : satInc 3 c.failRun = min 3 (n + 1) := by
      rw [satInc_eq_min_succ, ihrun]
      omega
    refine ⟨hnext, ?_⟩
    have hraised : (c.judge false).adcLost = (c.adcLost || satInc 3 c.failRun == 3) := rfl
    rw [hraised, hnext, ihlost, Bool.eq_iff_iff]
    simp only [Bool.or_eq_true, decide_eq_true_eq, beq_iff_eq]
    omega

/-- From a good run of 0, `n` good instants in a row are counted until the 2,400th, which clears ADC LOST. -/
theorem Bay.judge_true_iterate {b : Bay} (hlost : b.adcLost = true) (hrun : b.goodRun = 0) (n : Nat) (hn : n ≤ 2400) :
    (n < 2400 → ((fun x : Bay => x.judge true)^[n] b).goodRun = n)
      ∧ ((fun x : Bay => x.judge true)^[n] b).adcLost = decide (n < 2400) := by
  induction n with
  | zero => simp [hlost, hrun]
  | succ n ih =>
    rw [Function.iterate_succ_apply']
    generalize (fun x : Bay => x.judge true)^[n] b = c at ih ⊢
    obtain ⟨ihrun, ihlost⟩ := ih (by omega)
    rw [decide_eq_true (by omega)] at ihlost
    have hcount := ihrun (by omega)
    have hgood : c.judge true = if 2400 ≤ n + 1 then { c with failRun := 0, goodRun := 0, adcLost := false }
        else { c with failRun := 0, goodRun := n + 1 } := by
      rw [Bay.judge, if_pos rfl, Bay.good, if_pos ihlost, hcount]
    rw [hgood]
    split_ifs with hend
    · exact ⟨fun h => absurd hend (by omega), (decide_eq_false (by omega)).symm⟩
    · exact ⟨fun _ => rfl, ihlost.trans (decide_eq_true (by omega)).symm⟩

/-- Settles O12: both runs by induction on the number of instants. -/
theorem adcLostRuns : Obligations.AdcLostRuns := by
  unfold Obligations.AdcLostRuns
  exact ⟨fun b hlost hrun n => (Bay.judge_false_iterate hlost hrun n).2,
    fun b hlost hrun n hn => (Bay.judge_true_iterate hlost hrun n hn).2⟩

/-! ### Travel supervision (R12) -/

section

variable (d : Debounce) (count limit : Nat) (raw : DPoint)

/-- The travel supervision of an instant is told a change exactly when the debounced state changes. -/
theorem Debounce.step_travelStep : d.step count limit raw =
    Debounce.travelStep { d with
      cand := some raw, stab := stability count d.cand d.stab raw, deb := (d.step count limit raw).deb }
      (decide ((d.step count limit raw).deb ≠ d.deb)) limit := by
  rw [Debounce.step_deb, Debounce.step_stab]
  unfold Debounce.step
  by_cases hstab : stability count d.cand d.stab raw = count
  · by_cases hraw : raw = d.deb
    · simp [hraw]
    · simp [hstab, hraw, bne, beq_false_of_ne hraw]
  · simp [hstab, beq_false_of_ne hstab]

variable {d count limit raw}

/-- A device that becomes MOVING starts its travel count. -/
theorem Debounce.step_starts (hnow : (d.step count limit raw).deb = .moving) (hbefore : d.deb ≠ .moving) :
    (d.step count limit raw).travel = some 0 ∧ (d.step count limit raw).expired = false := by
  rw [d.step_travelStep, hnow, Debounce.travelStep, if_neg (by simp), if_pos (by simpa using hbefore.symm)]
  exact ⟨rfl, rfl⟩

/-- A device that stays MOVING counts until its expired marker is set. -/
theorem Debounce.step_stays (hnow : (d.step count limit raw).deb = .moving) (hbefore : d.deb = .moving) :
    (d.step count limit raw).travel = (if d.expired then d.travel else some (d.travel.getD 0 + 1))
      ∧ (d.step count limit raw).expired = (d.expired || decide (limit ≤ d.travel.getD 0 + 1)) := by
  rw [d.step_travelStep, hnow, Debounce.travelStep, if_neg (by simp), if_neg (by simp [hbefore])]
  cases d.expired <;> simp

/-- A device that is not MOVING has no travel count and no expired marker. -/
theorem Debounce.step_leaves (hnow : (d.step count limit raw).deb ≠ .moving) :
    (d.step count limit raw).travel = none ∧ (d.step count limit raw).expired = false := by
  rw [d.step_travelStep, Debounce.travelStep, if_pos hnow]
  exact ⟨rfl, rfl⟩

theorem Debounce.step_reported : (d.step count limit raw).reported
    = if (d.step count limit raw).deb = .moving ∧ (d.step count limit raw).expired = true then .invalid
      else (d.step count limit raw).deb := by
  rw [Debounce.reported]
  by_cases hmoving : (d.step count limit raw).deb = .moving
  · simp [hmoving]
  · simp [hmoving, (Debounce.step_leaves hmoving).2]

/-- A MOVING device whose contacts stay so is MOVING. -/
theorem Debounce.step_moving (hbefore : d.deb = .moving) : (d.step count limit .moving).deb = .moving := by
  rw [Debounce.step_deb, hbefore, ite_self]

/-- A device that stays MOVING has the marker from the instant of its travel time on, at which its count stops. -/
theorem Debounce.travel_iterate (hlimit : 1 ≤ limit) (hbefore : d.deb = .moving) (htravel : d.travel = some 0)
    (hexpired : d.expired = false) (n : Nat) :
    ((fun x : Debounce => x.step count limit .moving)^[n] d).deb = .moving
      ∧ ((fun x : Debounce => x.step count limit .moving)^[n] d).travel = some (min limit n)
      ∧ ((fun x : Debounce => x.step count limit .moving)^[n] d).expired = decide (limit ≤ n) := by
  induction n with
  | zero => exact ⟨hbefore, by simp [htravel], by simp [hexpired]; omega⟩
  | succ n ih =>
    rw [Function.iterate_succ_apply']
    generalize (fun x : Debounce => x.step count limit .moving)^[n] d = e at ih ⊢
    obtain ⟨ihdeb, ihtravel, ihexpired⟩ := ih
    obtain ⟨hcount, hmarker⟩ := Debounce.step_stays (count := count) (limit := limit) (Debounce.step_moving ihdeb) ihdeb
    refine ⟨Debounce.step_moving ihdeb, ?_, ?_⟩
    · rw [hcount, ihexpired, ihtravel]
      by_cases hreached : limit ≤ n
      · simp only [hreached, decide_true, if_true, Option.some_inj]
        omega
      · simp only [hreached, decide_false, Bool.false_eq_true, if_false, Option.getD_some, Option.some_inj]
        omega
    · rw [hmarker, ihexpired, ihtravel, Bool.eq_iff_iff]
      simp only [Option.getD_some, Bool.or_eq_true, decide_eq_true_eq]
      omega

end

/-! ### BLOCK IN (R11) -/

/-- The position that stands for a level of BLOCK IN. -/
def levelPoint : Bool → DPoint
  | true => .closed
  | false => .opened

theorem levelPoint_injective : Function.Injective levelPoint := by
  intro a b h
  cases a <;> cases b <;> first | rfl | exact absurd h (by decide)

/-- BLOCK IN as a device that never moves. -/
def BlockDebounce.asDevice (b : BlockDebounce) : Debounce where
  cand := b.cand.map levelPoint
  stab := b.stab
  deb := levelPoint b.active
  travel := none
  expired := false

/-- BLOCK IN is debounced like a device (R11). -/
theorem BlockDebounce.asDevice_step (b : BlockDebounce) (count limit : Nat) (high : Bool) :
    (b.step count high).asDevice = b.asDevice.step count limit (levelPoint high) := by
  have hstab : stability count (b.cand.map levelPoint) b.stab (levelPoint high)
    = stability count b.cand b.stab high := by
    unfold stability
    refine if_congr ?_ rfl rfl
    rw [← Option.map_some, Option.map_injective levelPoint_injective |>.eq_iff]
  have hdeb : (b.asDevice.step count limit (levelPoint high)).deb = levelPoint (b.step count high).active := by
    rw [Debounce.step_deb, Debounce.step_stab]
    exact (if_congr (by rw [← hstab]; rfl) rfl rfl).trans (apply_ite levelPoint _ _ _).symm
  have hrest : (b.asDevice.step count limit (levelPoint high)).deb ≠ .moving := by
    rw [hdeb]
    cases (b.step count high).active <;> decide
  obtain ⟨htravel, hexpired⟩ := Debounce.step_leaves hrest
  have hcand := b.asDevice.step_cand count limit (levelPoint high)
  have hcount := (b.asDevice.step_stab count limit (levelPoint high)).trans hstab
  generalize b.asDevice.step count limit (levelPoint high) = e at *
  obtain ⟨cand, stab, deb, travel, expired⟩ := e
  subst htravel hexpired hcand hcount hdeb
  rfl

/-- A level of BLOCK IN that was not the candidate and comes at the debounce count of instants in a row becomes its
state at the last of them, and not before. -/
theorem BlockDebounce.step_iterate {b : BlockDebounce} {count : Nat} {high : Bool} (hcount : 1 ≤ count)
    (hcand : b.cand ≠ some high) (n : Nat) :
    ((fun x : BlockDebounce => x.step count high)^[n] b).active = if count ≤ n then high else b.active := by
  cases n with
  | zero => rw [if_neg (by omega), Function.iterate_zero_apply]
  | succ n =>
    have hdevice : Function.Semiconj BlockDebounce.asDevice (fun x => x.step count high)
        (fun e : Debounce => e.step count 0 (levelPoint high)) := fun x => x.asDevice_step count 0 high
    have hother : b.asDevice.cand ≠ some (levelPoint high) := fun h =>
      hcand (Option.map_injective levelPoint_injective (h.trans (Option.map_some ..).symm))
    obtain ⟨-, -, hdeb⟩ := Debounce.step_iterate 0 hcount hother n
    rw [← (hdevice.iterate_right (n + 1)) b] at hdeb
    exact levelPoint_injective (hdeb.trans (apply_ite levelPoint _ _ _).symm)

theorem BlockDebounce.step_active (b : BlockDebounce) (count : Nat) (high : Bool) :
    (b.step count high).active = if (b.step count high).stab = count then high else b.active := rfl

/-! ### TRAVEL_EXPIRY (R12, R13) -/

theorem someExpired_iff (d : PerDevice Debounce) : someExpired d = true ↔ ∃ e, (d.get e).expired = true := by
  unfold someExpired
  rw [Bool.or_eq_true, Bool.or_eq_true]
  constructor
  · rintro ((h | h) | h)
    · exact ⟨.x, h⟩
    · exact ⟨.y, h⟩
    · exact ⟨.breaker, h⟩
  · rintro ⟨_ | _ | _, h⟩
    · exact .inl (.inl h)
    · exact .inl (.inr h)
    · exact .inr h

/-- TRAVEL_EXPIRY of a device that stands at its travel time. -/
theorem exec_travelExpiry (s : State) (d : Device) {c : Nat} (hworking : s.working = true)
    (hmoving : (s.bay.dev.get d).deb = .moving) (hmarker : (s.bay.dev.get d).expired = false)
    (htravel : (s.bay.dev.get d).travel = some c) (hreached : s.travelTime d ≤ c) :
    exec (.travelExpiry d) s = .next (State.driven { s with bay := { s.bay with
      dev := s.bay.dev.set d { s.bay.dev.get d with expired := true }, travel := true } }) := by
  have hraised : someExpired (s.bay.dev.set d { s.bay.dev.get d with expired := true }) = true :=
    (someExpired_iff _).2 ⟨d, by simp⟩
  rw [exec, execTravelExpiry]
  dsimp only
  rw [if_pos (by simp [hworking, hmoving, hmarker, htravel, hreached]), answer_eq, Bay.setTravel]
  dsimp only
  rw [hraised]

/-- Settles O14: the cases of travel supervision by the debounced state before and after, BLOCK IN as a device that
never moves, and the row of an expiry. -/
theorem travelExpiry : Obligations.TravelExpiry := by
  unfold Obligations.TravelExpiry
  refine ⟨fun d raw count limit => ⟨Debounce.step_starts, fun hnow hbefore => ⟨fun hexpired => ?_,
      fun hexpired c hc => ?_⟩, Debounce.step_leaves, Debounce.step_reported, ?_⟩,
    fun s => ⟨rfl, rfl, rfl⟩, fun b high count hcount hstab => ⟨rfl, fun hcand => ?_, fun hcand => ?_,
      b.step_active count high, fun hcand _ n => BlockDebounce.step_iterate hcount hcand n⟩,
    fun s d c hworking hmoving hmarker htravel hreached => ?_⟩
  · obtain ⟨htravel, hmarker⟩ := Debounce.step_stays hnow hbefore
    rw [htravel, hmarker, hexpired]
    exact ⟨rfl, rfl⟩
  · obtain ⟨htravel, hmarker⟩ := Debounce.step_stays hnow hbefore
    rw [htravel, hmarker, hexpired, hc]
    exact ⟨rfl, by simp⟩
  · rintro rfl hbefore htravel hexpired hlimit n
    obtain ⟨-, hn⟩ := Debounce.travel_iterate (count := count) hlimit hbefore htravel hexpired n
    exact hn
  · simp [BlockDebounce.step, hcand, stability_of_cand high hstab]
  · simp [BlockDebounce.step, stability_of_not_cand hcand]
  · refine ⟨_, exec_travelExpiry s d hworking hmoving hmarker htravel hreached, by simp, by simp [Debounce.reported],
      rfl, fun e he => by simp [he], rfl⟩

/-! ### DRDY_RISE (R2) -/

/-- Settles O15. -/
theorem drdyRise : Obligations.DrdyRise := by
  unfold Obligations.DrdyRise
  intro s hconverts hdue hwait hbelow
  refine ⟨_, rfl, ?_⟩
  rw [s.takeStep_none hdue, State.drdy, if_pos (by simp [hconverts, hwait, hbelow])]
  rfl

end Sys2Proof.Machine
end

section
/-! PROOFS. Frames on the wire: the residue of the CRC (R38). -/

namespace Sys2Proof.Machine

/-! ### The FCS and the residue (R38) -/

/-- The bits of a byte that is made of eight bits. -/
theorem bitsLsb_toByte_natOfBits {l : List Bool} (h : l.length = 8) : bitsLsb (toByte (natOfBits l)) = l := by
  have hbit (i : Nat) (hi : i < 8) : (toByte (natOfBits l)).getLsbD i = l.getD i false := by
    rw [toByte, BitVec.getLsbD_ofNat, decide_eq_true hi, Bool.true_and, testBit_natOfBits]
  refine List.ext_getElem (by rw [h]; rfl) fun i hi _ => ?_
  have hi8 : i < 8 := hi
  have hget : (bitsLsb (toByte (natOfBits l)))[i] = (toByte (natOfBits l)).getLsbD i := by
    unfold bitsLsb
    interval_cases i <;> rfl
  exact hget.trans ((hbit i hi8).trans (List.getD_eq_getElem _ _ (h ▸ hi8)))

/-- The bits of an FCS byte: the complements of eight coefficients of the register, the highest first. -/
theorem bitsLsb_fcsByte (r : BitVec 32) (j : Nat) :
    bitsLsb (fcsByte r j) = (List.range 8).map fun i => !(r.getLsbD (31 - (8 * j + i))) :=
  bitsLsb_toByte_natOfBits (by simp)

/-- A data bit that is the complement of the register's own bit, which is then shifted out: what the register differs
by from the shifted one goes on as it would with a data bit 1. -/
theorem crc32Bit_complement (r c : BitVec 32) {i : Nat} (hi : i < 32) :
    crc32Bit (r <<< i ^^^ c) (!(r.getLsbD (31 - i))) = r <<< (i + 1) ^^^ crc32Bit c true := by
  have htop : (r <<< i ^^^ c).getLsbD 31 = (r.getLsbD (31 - i) ^^ c.getLsbD 31) := by
    rw [BitVec.getLsbD_xor, BitVec.getLsbD_shiftLeft]
    simp [Nat.not_lt.2 (show i ≤ 31 by omega)]
  have hshift : (r <<< i ^^^ c) <<< 1 = r <<< (i + 1) ^^^ c <<< 1 := by
    rw [BitVec.shiftLeft_xor_distrib, BitVec.shiftLeft_add]
  unfold crc32Bit
  rw [htop, hshift]
  cases r.getLsbD (31 - i) <;> cases c.getLsbD 31 <;> simp [BitVec.xor_assoc]

/-- After `n` complemented coefficients the register differs from the shifted one by what `n` ones leave. -/
theorem crc32_complements (r : BitVec 32) {n : Nat} (hn : n ≤ 32) :
    ((List.range n).map fun i => !(r.getLsbD (31 - i))).foldl crc32Bit r
      = r <<< n ^^^ (List.replicate n true).foldl crc32Bit 0#32 := by
  induction n with
  | zero => simp
  | succ n ih =>
    rw [List.range_succ, List.map_append, List.foldl_append, ih (by omega), List.replicate_succ', List.foldl_append]
    exact crc32Bit_complement r _ (by omega)

/-- The register that 32 ones leave is the residue. -/
theorem crc32_ones : (List.replicate 32 true).foldl crc32Bit 0#32 = 0xC704DD7B#32 := by
  simp [List.replicate, crc32Bit]

/-- Settles O27: the FCS is the complement of the register from its highest coefficient down, so that its 32 bits shift
the register out and leave what 32 ones leave. -/
theorem fcsResidue : Obligations.FcsResidue := by
  unfold Obligations.FcsResidue
  intro bytes
  have hbits (r : BitVec 32) :
      [fcsByte r 0, fcsByte r 1, fcsByte r 2, fcsByte r 3].foldl (fun reg byte => (bitsLsb byte).foldl crc32Bit reg) r
        = ((List.range 32).map fun i => !(r.getLsbD (31 - i))).foldl crc32Bit r := by
    simp only [List.foldl_cons, List.foldl_nil, bitsLsb_fcsByte, ← List.foldl_append]
    rfl
  have hfcs : crc32 (bytes ++ fcsOf bytes)
      = ((List.range 32).map fun i => !((crc32 bytes).getLsbD (31 - i))).foldl crc32Bit (crc32 bytes) := by
    rw [← hbits, crc32, List.foldl_append]
    rfl
  rw [hfcs, crc32_complements _ (by omega), crc32_ones]
  simp

/-! ### Whole frames (R37, R38, R45) -/

/-- The source address is as long as the group address that it is made from. -/
theorem sourceAddress_length {group : List Byte} (num : Nat) (h : group.length = 6) :
    (sourceAddress group num).length = 6 := by
  cases group with
  | nil => simp at h
  | cons b rest =>
    rw [List.length_cons] at h
    simp [sourceAddress]
    omega

theorem headerOf_length {group : List Byte} (num linkType : Nat) (h : group.length = 6) :
    (headerOf group num linkType).length = 14 := by
  simp [headerOf, sourceAddress_length num h, h]

theorem padPayload_length {p : List Byte} (h : p.length ≤ 46) : (padPayload p).length = 46 := by
  simp [padPayload]
  omega

theorem wireFrame_length {header p : List Byte} (hheader : header.length = 14) (hp : p.length ≤ 46) :
    (wireFrame header p).length = 64 := by
  simp [wireFrame, padPayload_length hp, hheader, fcsOf]

/-- Behind the header stand the padded payload and the FCS. -/
theorem wireFrame_drop {header : List Byte} (p : List Byte) (hheader : header.length = 14) :
    (wireFrame header p).drop 14 = padPayload p ++ fcsOf (header ++ padPayload p) := by
  rw [wireFrame, ← hheader, List.append_assoc, List.drop_left]

/-- A built frame passes step 1. -/
theorem wireFrame_good {header p : List Byte} (hheader : header.length = 14) (hp : p.length ≤ 46) :
    frameGood (wireFrame header p) false = true := by
  rw [frameGood_iff, wireFrame_length hheader hp]
  exact ⟨by omega, by omega, fcsResidue _, rfl⟩

end Sys2Proof.Machine
end

section
/-! PROOFS. Resets and the steps of the self-test. -/

namespace Sys2Proof.Machine

/-! ### Resets (R178, R179) -/

section

variable (s : State)

/-- Outside RUN neither the TRIP line nor PROT READY is driven. -/
theorem State.outputs_of_not_run (h : s.ctl.mode ≠ .run) :
    s.outputs.tripLine = false ∧ s.outputs.protReady = false := by
  have hrun : s.inRun = false := by rw [State.inRun, beq_eq_false_iff_ne.2 h, Bool.false_and]
  constructor
  · change s.tripLineOut = false
    rw [State.tripLineOut, hrun, Bool.false_and]
  · change s.protReadyOut = false
    simp [State.protReadyOut, hrun]

/-- After a reset no path has a frame in transmission. -/
theorem Link.initial_sending (lup : PerPath Bool) (pben : Bool) (p : Path) :
    ((Link.initial lup pben).paths.get p).sending = none := by
  cases p <;> rfl

/-- A reset cuts off each frame in transmission with a transmit error. -/
theorem State.cutErrors_of_sending (p : Path) (h : (s.link.paths.get p).sending ≠ none) :
    (s.cutErrors (.const true)).txError.get p = true := by
  rw [(s.cutErrors_eq _).2, Option.isSome_iff_ne_none.2 h]
  simp

/-- The transmit errors that stand after a reset's cut. -/
theorem State.coldValues_txError (p : Path) (h : (s.link.paths.get p).sending ≠ none) :
    s.coldValues.txErrorOut p = true := by
  rw [State.txErrorOut, State.coldValues, Link.initial_sending, s.cutErrors_of_sending p h]
  rfl

/-- The transmit errors that stand after a warm reset's cut. -/
theorem State.warmValues_txError (p : Path) (h : (s.link.paths.get p).sending ≠ none) :
    s.warmValues.txErrorOut p = true := by
  rw [State.txErrorOut, State.warmValues, Link.initial_sending, s.cutErrors_of_sending p h]
  rfl

/-- While PORST is low ALARM is deasserted (R178). -/
theorem State.alarmOut_of_porst (h : s.pins.porstLow = true) : s.alarmOut = false := by rw [State.alarmOut, h]; rfl

/-- PORST low holds the station in a reset. -/
theorem State.resetHeld_of_porst (h : s.pins.porstLow = true) : s.resetHeld = true := by rw [State.resetHeld, h]; rfl

/-- WRST low holds the station in a reset. -/
theorem State.resetHeld_of_wrst (h : s.pins.wrstLow = true) : s.resetHeld = true := by
  rw [State.resetHeld, h, Bool.or_true]

/-- In a reset, and in step 7 of the self-test, STATUS CODE is 7. -/
theorem State.statusOut_step7 (h : s.ctl.mode = .selftest) (h1 : s.ctl.step = some 7) : s.statusOut = 7 := by
  simp [State.statusOut, h, h1]

theorem exec_porstRise (stn : BitVec 5) (pben : Bool) (h : s.pins.porstLow = true) :
    exec (.porstRise stn pben) s = .next ({ s with
      pins := { s.pins with porstLow := false }
      ctl := { s.ctl with strap := stn.toNat, pben := pben } } : State).coldValues.driven := by
  rw [exec, execPorstRise, if_pos h, answer_eq]

/-- WARM_RESET holds the warm-reset values unless PORST holds the station. -/
theorem exec_warmReset : exec .warmReset s
    = .next (if s.pins.porstLow then { s with pins := { s.pins with wrstLow := true } }
        else ({ s with pins := { s.pins with wrstLow := true } } : State).warmValues).driven := rfl

/-- WRST_RISE restarts from the warm-reset values unless PORST holds the station. -/
theorem exec_wrstRise (h : s.pins.wrstLow = true) : exec .wrstRise s
    = .next (if s.pins.porstLow then { s with pins := { s.pins with wrstLow := false } }
        else ({ s with pins := { s.pins with wrstLow := false } } : State).warmValues).driven := by
  rw [exec, execWrstRise, if_pos h, answer_eq]

end

/-- Settles O3: the fields are those of the cold-reset values; PORST low gives STATUS CODE 7 and no ALARM, the
self-test no TRIP line and no PROT READY. -/
theorem coldReset : Obligations.ColdReset := by
  unfold Obligations.ColdReset
  refine ⟨fun s => ?_, fun stn pben s hporst => ?_⟩
  · let t : State := ({ s with pins := { s.pins with porstLow := true } } : State).coldValues
    obtain ⟨htrip, hready⟩ := t.outputs_of_not_run (by decide : Mode.selftest ≠ .run)
    exact ⟨t.driven, rfl, rfl, rfl, rfl, rfl, rfl, rfl, rfl, rfl, rfl, rfl, rfl, rfl, rfl, rfl, rfl, rfl, rfl, rfl,
      rfl, rfl, rfl, rfl, by simp [t, State.coldValues, Link.initial, PathCtl.initial],
      rfl, t.statusOut_of_held (t.resetHeld_of_porst rfl),
      t.alarmOut_of_porst rfl, htrip, hready, rfl,
        fun p hp => (t.outputs_txError p).trans (State.coldValues_txError _ p hp)⟩
  · let t : State := ({ s with
      pins := { s.pins with porstLow := false }
      ctl := { s.ctl with strap := stn.toNat, pben := pben } } : State).coldValues
    obtain ⟨htrip, hready⟩ := t.outputs_of_not_run (by decide : Mode.selftest ≠ .run)
    exact ⟨t.driven, exec_porstRise s stn pben hporst, rfl, rfl, rfl, rfl, rfl, rfl, rfl, rfl, rfl, rfl, rfl, rfl, rfl,
      rfl, rfl, rfl, rfl, rfl, rfl, rfl, rfl, rfl, by simp [t, State.coldValues, Link.initial, PathCtl.initial], rfl,
      t.statusOut_step7 rfl rfl, htrip, hready, rfl⟩

/-- Settles O4: with PORST high the fields are those of the warm-reset values; with PORST low the line alone
changes. -/
theorem warmReset : Obligations.WarmReset := by
  unfold Obligations.WarmReset
  intro s
  refine ⟨fun hporst => ?_, fun hporst hwrst => ?_, fun hporst => ?_, fun hporst hwrst => ?_⟩
  · let t : State := ({ s with pins := { s.pins with wrstLow := true } } : State).warmValues
    obtain ⟨htrip, hready⟩ := t.outputs_of_not_run (by decide : Mode.selftest ≠ .run)
    refine ⟨t.driven, by rw [exec_warmReset, hporst]; rfl, rfl, t.statusOut_of_held (t.resetHeld_of_wrst rfl),
      htrip, hready, rfl,
      rfl, rfl, rfl, rfl, rfl, rfl, rfl, rfl, rfl, rfl, rfl, rfl, rfl, rfl, rfl, rfl, rfl, rfl, ?_, rfl, rfl, rfl, rfl,
      fun p hp => (t.outputs_txError p).trans (State.warmValues_txError _ p hp)⟩
    simp [t, State.warmValues, Link.initial, PathCtl.initial]
  · let t : State := ({ s with pins := { s.pins with wrstLow := false } } : State).warmValues
    refine ⟨t.driven, by rw [exec_wrstRise s hwrst, hporst]; rfl, rfl, rfl, rfl, rfl, rfl, rfl, rfl, rfl, rfl, rfl, rfl,
      rfl, rfl, rfl, rfl, rfl, rfl, rfl, rfl, rfl, ?_, rfl, rfl, rfl, rfl⟩
    simp [t, State.warmValues, Link.initial, PathCtl.initial]
  · exact ⟨_, exec_warmReset s, by rw [if_pos hporst]; rfl⟩
  · exact ⟨_, exec_wrstRise s hwrst, by rw [if_pos hporst]; rfl⟩

/-! ### Halts of the self-test (R180, R181) -/

section

variable {s : State}

/-- HALTED from the self-test: the record and the mode, and nothing else. -/
theorem State.halt_of_selftest (h : s.ctl.mode = .selftest) (code : HaltCode) (second : Option FaultReport) :
    s.halt code second = { s with
      sup := { s.sup with
        halt := some ⟨code, if s.clock.taken then some s.clock.index else none, .selftest, second⟩ }
      ctl := { s.ctl with mode := .halted } } := by
  simp [State.halt, State.leaveMode, h]

/-- What a failed step of the self-test leaves: HALTED with the step's number as code and STATUS CODE. -/
theorem State.failStep_of_selftest (h : s.ctl.mode = .selftest) (hfree : s.resetHeld = false) (n : Nat) :
    (s.failStep n).ctl.mode = .halted ∧ (s.failStep n).outputs.statusCode = n
      ∧ (s.failStep n).sup.halt.map HaltRecord.code = some (.selftest n)
      ∧ (s.failStep n).sup.fault = s.sup.fault ∧ (s.failStep n).sup.invertMask = s.sup.invertMask
      ∧ (s.failStep n).clock = s.clock ∧ (s.failStep n).bay = s.bay := by
  have hhalt := State.halt_of_selftest h (.selftest n) none
  have hstatus (t : State) (ht : t = s.failStep n) : t.statusOut = n := by
    subst ht
    rw [State.failStep, hhalt]
    simp [State.statusOut, State.resetHeld, s.resetHeld_eq_false.1 hfree, HaltCode.pins]
  refine ⟨?_, hstatus _ rfl, ?_⟩ <;> rw [State.failStep, hhalt]
  exact ⟨rfl, rfl, rfl, rfl, rfl⟩

/-- A step of the self-test keeps the self-test and shows its number. -/
theorem State.toStep_statusOut (h : s.ctl.mode = .selftest) (hfree : s.resetHeld = false) (n : Nat) :
    (s.toStep n).outputs.statusCode = n :=
  (State.statusOut_of_free (s.toStep n) hfree).2.2.2.1 n h rfl

/-- At a step of the self-test the station does not work. -/
theorem State.working_of_atStep {n : Nat} (h : s.atStep n = true) : s.working = false := by
  obtain ⟨hmode, -, -⟩ := (s.atStep_iff n).1 h
  simp [State.working, hmode]

/-- The step that stands is no other step. -/
theorem State.atStep_of_ne {n m : Nat} (h : s.atStep n = true) (hne : n ≠ m) : s.atStep m = false := by
  obtain ⟨-, hstep, -⟩ := (s.atStep_iff n).1 h
  simp [State.atStep, hstep, hne]

/-! ### Steps 7, 6 and 5 (R182 to R184) -/

/-- Step 5 changes the store alone. -/
theorem State.checkStored_eq : ∃ store block signature,
    s.checkStored = { s with ctl := { s.ctl with store := store, block := block, signature := signature } }
      ∧ (s.ctl.start = .warm ∧ s.ctl.store ≠ .empty ∧ blockCrcGood s.blockBytes = false →
          store = .empty ∧ block = none ∧ signature = none)
      ∧ (¬(s.ctl.start = .warm ∧ s.ctl.store ≠ .empty ∧ blockCrcGood s.blockBytes = false) →
          store = s.ctl.store ∧ block = s.ctl.block ∧ signature = s.ctl.signature) := by
  unfold State.checkStored
  split_ifs with hbad
  · exact ⟨_, _, _, rfl, fun _ => ⟨rfl, rfl, rfl⟩, fun h => absurd hbad h⟩
  · exact ⟨_, _, _, rfl, fun h => absurd h hbad, fun _ => ⟨rfl, rfl, rfl⟩⟩

end

/-- Settles O5: each outcome of the storage test is read off the halt, or the start of step 4, that it leads to. -/
theorem storageTest : Obligations.StorageTest := by
  unfold Obligations.StorageTest
  intro s hstep
  obtain ⟨hmode, -, hfree⟩ := (s.atStep_iff 7).1 hstep
  refine ⟨?_, fun hhealth => ?_, fun hhealth => ?_⟩
  · obtain ⟨h1, h2, h3, h4, -, h5, -⟩ := State.failStep_of_selftest (s := s.clearStorage) hmode hfree 7
    exact ⟨(s.clearStorage.failStep 7).driven, by rw [exec, execStorageTest, if_pos hstep]; rfl, h1, h2, h3, h4, h5⟩
  · have hfail : s.clearStorage.health.selftestPasses = false := hhealth
    obtain ⟨h1, h2, h3, h4, h5, h6, -⟩ := State.failStep_of_selftest (s := s.clearStorage.toStep 6) hmode hfree 6
    exact ⟨((s.clearStorage.toStep 6).failStep 6).driven,
      by rw [exec, execStorageTest, if_pos hstep]; simp only [hfail]; rfl, h1, h2, h3, h4, h5, h6⟩
  · have hpass : s.clearStorage.health.selftestPasses = true := hhealth
    obtain ⟨store, block, signature, hstored, hbad, hgood⟩ := State.checkStored_eq (s := s.clearStorage)
    refine ⟨s.clearStorage.checkStored.startStep4.driven,
      by rw [exec, execStorageTest, if_pos hstep]; simp only [hpass]; rfl, ?_⟩
    rw [hstored]
    exact ⟨hmode, rfl, rfl, rfl, rfl, State.toStep_statusOut (s := State.startAttempt _) hmode hfree 4, rfl, rfl,
      fun g => by simp [State.startStep4, State.startAttempt, State.clearStorage, Slot.withRing], rfl, rfl, rfl,
        rfl, rfl,
      hbad, hgood⟩

/-! ### Step 4 (R15, R185) -/

section

variable {s : State}

/-- The timers of the instants do not run while the station does not work. -/
theorem State.ticksTo_idle (h : s.working = false) : s.ticksTo .pps = none ∧ s.ticksTo .mark = none := by
  have hrun : s.inRun = false := Bool.eq_false_iff.2 fun hc => by simp [s.working_of_inRun hc] at h
  constructor <;> simp [State.ticksTo, hrun]

/-- At a step of the self-test ticks pass undisturbed up to the first event of its own timers. -/
theorem State.pass_selftest {k : Nat} (hstep : s.atStep k = true) {n : Nat} (hadc : ∀ m,
    s.ticksTo .adc = some m → n ≤ m)
    (hattempt : ∀ m, s.ticksTo .attempt = some m → n ≤ m) (hloop : ∀ m, s.ticksTo .loop = some m → n ≤ m) :
    s.pass n = s.elapse n := by
  obtain ⟨hpps, hmark⟩ := State.ticksTo_idle (State.working_of_atStep hstep)
  refine s.pass_quiet n ((s.firstTimed_eq_none n).2 fun e m he => ?_)
  cases e with
  | adc => exact hadc m he
  | pps => simp [hpps] at he
  | mark => simp [hmark] at he
  | attempt => exact hattempt m he
  | loop => exact hloop m he

/-- The row of a timed event of the self-test whose ticks pass undisturbed. -/
theorem State.timedRow_selftest {k : Nat} (hstep : s.atStep k = true) {e : Timed} {n : Nat} (he : s.ticksTo e = some n)
    (hpass : s.pass n = s.elapse n) : s.timedRow e = (s.elapse n).takeDue e := by
  have hidle := State.working_of_atStep hstep
  simp only [State.timedRow, s.settleDue_idle hidle, he, s.passes_idle hidle, if_true, hpass]

/-- Time keeps the step of the self-test. -/
theorem State.elapse_atStep (n k : Nat) : (s.elapse n).atStep k = s.atStep k := by
  obtain ⟨-, hpins, -⟩ := s.elapse_fields n
  obtain ⟨hmode, hstep, -⟩ := s.elapse_ctl n
  rw [State.atStep, State.atStep, hmode, hstep, State.resetHeld, State.resetHeld, hpins]

/-- In step 4 conversions run. -/
theorem State.converts_of_step4 (hstep : s.atStep 4 = true) : s.converts = true := by
  obtain ⟨hmode, hs, hfree⟩ := (s.atStep_iff 4).1 hstep
  simp [State.converts, hmode, hs, hfree]

theorem State.ticksTo_attempt (hstep : s.atStep 4 = true) (hidle : s.bay.conv = .idle) (h : s.ctl.attempts < 3) :
    s.ticksTo .attempt = some (Config.attemptTicks - s.ctl.attemptTicks) := by
  simp [State.ticksTo, hstep, hidle, h]

theorem State.ticksTo_attempt_none (h : s.bay.conv ≠ .idle) : s.ticksTo .attempt = none := by
  simp [State.ticksTo, h]

theorem State.ticksTo_adc (hconv : s.converts = true) (h : s.bay.conv = .waitDrdy) :
    s.ticksTo .adc = some (Config.adcLimit - s.bay.wait) := by
  simp [State.ticksTo, hconv, h]

theorem State.ticksTo_adc_none (h : s.bay.conv ≠ .waitDrdy) : s.ticksTo .adc = none := by simp [State.ticksTo, h]

theorem State.ticksTo_loop_none (h : s.atStep 3 = false) : s.ticksTo .loop = none := by simp [State.ticksTo, h]

end

section

variable {s : State}

/-- What ticks leave of the conversion and of the attempt in the self-test. -/
theorem State.elapse_step4 (hstep : s.atStep 4 = true) (n : Nat) :
    (s.elapse n).bay.conv = s.bay.conv ∧ (s.elapse n).bay.convIndex = s.bay.convIndex
      ∧ (s.elapse n).bay.failRun = s.bay.failRun ∧ (s.elapse n).bay.record = s.bay.record
      ∧ (s.elapse n).ctl.attempts = s.ctl.attempts
      ∧ (s.elapse n).ctl.attemptTicks = min Config.attemptTicks (s.ctl.attemptTicks + n) := by
  obtain ⟨hmode, -, hfree⟩ := (s.atStep_iff 4).1 hstep
  obtain ⟨w, r, hbay⟩ := Bay.elapse_eq n s.bay
  rw [s.elapse_selftest hfree hmode, hbay]
  exact ⟨rfl, rfl, rfl, rfl, rfl, rfl⟩

/-- Ticks keep the protection blocks. -/
theorem State.elapse_protectionKept (n : Nat) : (s.elapse n).ProtectionKept s := by
  obtain ⟨-, -, -, -, hroster, hasm, hreplica, hdiff, htrip, hsup, -⟩ := s.elapse_fields n
  exact ⟨hroster.symm, hasm.symm, hreplica.symm, hdiff.symm, htrip.symm, hsup.symm⟩

theorem State.ProtectionKept.symm {t : State} (h : s.ProtectionKept t) : t.ProtectionKept s := by
  obtain ⟨hroster, hasm, hreplica, hdiff, htrip, hsup⟩ := h
  exact ⟨hroster.symm, hasm.symm, hreplica.symm, hdiff.symm, htrip.symm, hsup.symm⟩

/-- What is kept twice is kept. -/
theorem State.ProtectionKept.trans {t u : State} (h : s.ProtectionKept t) (h1 : t.ProtectionKept u) :
    s.ProtectionKept u := by
  obtain ⟨hroster, hasm, hreplica, hdiff, htrip, hsup⟩ := h
  obtain ⟨hroster', hasm', hreplica', hdiff', htrip', hsup'⟩ := h1
  exact ⟨hroster'.trans hroster, hasm'.trans hasm, hreplica'.trans hreplica, hdiff'.trans hdiff, htrip'.trans htrip,
    hsup'.trans hsup⟩

/-- CONVERSION_ATTEMPT: the ticks up to 10,000 pass and the next attempt starts. -/
theorem exec_conversionAttempt (hstep : s.atStep 4 = true) (hidle : s.bay.conv = .idle) (hleft : s.ctl.attempts < 3) :
    exec .conversionAttempt s
      = .next (s.elapse (Config.attemptTicks - s.ctl.attemptTicks)).startAttempt.driven := by
  have hticks := State.ticksTo_attempt hstep hidle hleft
  have hquiet : s.pass (Config.attemptTicks - s.ctl.attemptTicks)
      = s.elapse (Config.attemptTicks - s.ctl.attemptTicks) := by
    refine State.pass_selftest hstep (fun m hm => ?_) (fun m hm => ?_) fun m hm => ?_
    · rw [State.ticksTo_adc_none (by simp [hidle])] at hm
      simp at hm
    · rw [hticks] at hm
      exact (Option.some.inj hm).le
    · rw [State.ticksTo_loop_none (State.atStep_of_ne hstep (by decide))] at hm
      simp at hm
  obtain ⟨hconv, -, -, -, hattempts, hattemptTicks⟩ :=
    State.elapse_step4 hstep (Config.attemptTicks - s.ctl.attemptTicks)
  have hdue : (s.elapse (Config.attemptTicks - s.ctl.attemptTicks)).ticksTo .attempt = some 0 := by
    rw [State.ticksTo_attempt (by rw [State.elapse_atStep, hstep]) (hconv.trans hidle) (by rwa [hattempts]),
      hattemptTicks]
    congr 1
    omega
  rw [exec, execConversionAttempt, answer_eq, State.timedRow_selftest hstep hticks hquiet, State.takeDue, if_pos hdue]
  rfl

/-- ADC_TIMEOUT in step 4: the ticks up to 4,800 pass and the attempt ends without success. -/
theorem exec_adcTimeout_step4 (hstep : s.atStep 4 = true) (hwait : s.bay.conv = .waitDrdy) :
    exec .adcTimeout s = .next ((s.elapse (Config.adcLimit - s.bay.wait)).endAttempt false).driven := by
  have hticks := State.ticksTo_adc (State.converts_of_step4 hstep) hwait
  have hquiet : s.pass (Config.adcLimit - s.bay.wait) = s.elapse (Config.adcLimit - s.bay.wait) := by
    refine State.pass_selftest hstep (fun m hm => ?_) (fun m hm => ?_) fun m hm => ?_
    · rw [hticks] at hm
      exact (Option.some.inj hm).le
    · rw [State.ticksTo_attempt_none (by simp [hwait])] at hm
      simp at hm
    · rw [State.ticksTo_loop_none (State.atStep_of_ne hstep (by decide))] at hm
      simp at hm
  obtain ⟨hconv, -⟩ := State.elapse_step4 hstep (Config.adcLimit - s.bay.wait)
  have hstep' : (s.elapse (Config.adcLimit - s.bay.wait)).atStep 4 = true := by rw [State.elapse_atStep, hstep]
  have hwaited : (s.elapse (Config.adcLimit - s.bay.wait)).bay.wait
      = min Config.adcLimit (s.bay.wait + (Config.adcLimit - s.bay.wait)) := by
    obtain ⟨hmode, -, hfree⟩ := (s.atStep_iff 4).1 hstep
    rw [s.elapse_selftest hfree hmode]
    simp [Bay.elapse, Bay.progress, hwait]
  have hdue : (s.elapse (Config.adcLimit - s.bay.wait)).ticksTo .adc = some 0 := by
    rw [State.ticksTo_adc (State.converts_of_step4 hstep') (hconv.trans hwait), hwaited]
    congr 1
    omega
  rw [exec, execAdcTimeout, answer_eq, State.timedRow_selftest hstep hticks hquiet, State.takeDue, if_pos hdue,
    State.takeTimed, State.working_of_atStep hstep']
  rfl

/-- READ_COMPLETE in step 4: the ticks up to 256 pass and the attempt ends with its reference code judged. -/
theorem exec_readComplete_step4 (hstep : s.atStep 4 = true) (hread : s.bay.conv = .reading) (bits : BitVec 64) :
    ∃ n, exec (.readComplete bits) s
      = .next ((s.elapse n).endAttempt ((s.elapse n).attemptGood (adcCodes bits).2)).driven := by
  refine ⟨Config.readTicks - s.bay.readTicks, ?_⟩
  generalize hn : Config.readTicks - s.bay.readTicks = n
  have hidle := State.working_of_atStep hstep
  have hquiet : s.pass n = s.elapse n := by
    refine State.pass_selftest hstep (fun m hm => ?_) (fun m hm => ?_) fun m hm => ?_
    · rw [State.ticksTo_adc_none (by simp [hread])] at hm
      simp at hm
    · rw [State.ticksTo_attempt_none (by simp [hread])] at hm
      simp at hm
    · rw [State.ticksTo_loop_none (State.atStep_of_ne hstep (by decide))] at hm
      simp at hm
  obtain ⟨hconv, -⟩ := State.elapse_step4 hstep n
  have hstep' : (s.elapse n).atStep 4 = true := by rw [State.elapse_atStep, hstep]
  have hdone : (s.elapse n).readDone bits = (s.elapse n).endAttempt ((s.elapse n).attemptGood (adcCodes bits).2) := by
    simp [State.readDone, State.converts_of_step4 hstep', hconv, hread, State.working_of_atStep hstep']
  rw [exec, execReadComplete, answer_eq]
  simp only [s.settleDue_idle hidle, State.converts_of_step4 hstep, hread, s.passes_idle hidle, hn, hquiet, hdone]
  rfl

/-- The settings are those of the stored block. -/
theorem State.attemptGood_elapse (n : Nat) (ref : Int) :
    (s.elapse n).attemptGood ref = true ↔ s.ctl.store = .empty ∨ s.refHi ≤ s.refLo ∨ (s.refLo ≤ ref
      ∧ ref ≤ s.refHi) := by
  obtain ⟨-, -, hstore, hblock, -⟩ := s.elapse_ctl n
  have hbytes : (s.elapse n).blockBytes = s.blockBytes := by rw [State.blockBytes, hblock, State.blockBytes]
  have hlo : (s.elapse n).refLo = s.refLo := by rw [State.refLo, State.set16, hbytes, State.refLo, State.set16]
  have hhi : (s.elapse n).refHi = s.refHi := by rw [State.refHi, State.set16, hbytes, State.refHi, State.set16]
  simp only [State.attemptGood, State.attemptWindow, State.refGood, hstore, hlo, hhi, Bool.or_eq_true,
    Bool.not_eq_true', Bool.and_eq_false_iff, bne_eq_false_iff_eq, decide_eq_false_iff_not, not_lt, Bool.and_eq_true,
    decide_eq_true_eq, or_assoc]

/-- An attempt that ends without success: the next one waits, or the third halts with code 4. -/
theorem State.endAttempt_failed (hstep : s.atStep 4 = true) :
    (s.endAttempt false).bay.conv = .idle ∧ (s.endAttempt false).bay.convLine = false
      ∧ (s.endAttempt false).bay.failRun = s.bay.failRun ∧ (s.endAttempt false).bay.record = s.bay.record
      ∧ (s.ctl.attempts < 3 → (s.endAttempt false).ctl = s.ctl ∧ (s.endAttempt false).ProtectionKept s)
      ∧ (3 ≤ s.ctl.attempts → (s.endAttempt false).ctl.mode = .halted ∧ (s.endAttempt false).outputs.statusCode = 4
          ∧ (s.endAttempt false).sup.halt.map HaltRecord.code = some (.selftest 4)) := by
  obtain ⟨hmode, -, hfree⟩ := (s.atStep_iff 4).1 hstep
  unfold State.endAttempt
  dsimp only
  rw [if_neg (by decide)]
  split_ifs with h
  · obtain ⟨h1, h2, h3, -, -, -, hbay⟩ := State.failStep_of_selftest
      (s := { s with bay := { s.bay with conv := .idle, convLine := false } }) hmode hfree 4
    rw [hbay]
    exact ⟨rfl, rfl, rfl, rfl, fun hlt => absurd h (by omega), fun _ => ⟨h1, h2, h3⟩⟩
  · exact ⟨rfl, rfl, rfl, rfl, fun _ => ⟨rfl, rfl, rfl, rfl, rfl, rfl, rfl⟩, fun hge => absurd hge h⟩

/-- Step 3 changes the Mode Controller alone; it starts with the first path that is tested, or step 2 follows. -/
theorem State.startStep3_eq : ∃ c, s.startStep3 = { s with ctl := c } ∧ c.mode = s.ctl.mode
    ∧ (s.pins.lup.a = true → c.step = some 3 ∧ c.loopPath = some .a ∧ c.loopFrame = some s.loopFrame ∧ c.loopTicks = 0)
    ∧ (s.pins.lup.a = false → s.pins.lup.b = true → s.ctl.pben = true →
        c.step = some 3 ∧ c.loopPath = some .b ∧ c.loopFrame = some s.loopFrame ∧ c.loopTicks = 0)
    ∧ (s.pins.lup.a = false → s.pins.lup.b = false ∨ s.ctl.pben = false → c.step = some 2 ∧ c.loopPath = none) := by
  have ha : (s.toStep 3).loopTests .a = s.pins.lup.a := by simp [State.loopTests, State.enabled, PerPath.get]
  have hb : (s.toStep 3).loopTests .b = (s.ctl.pben && s.pins.lup.b) := by
    simp [State.loopTests, State.enabled, PerPath.get]
  unfold State.startStep3
  dsimp only
  rw [ha, hb]
  cases hlupA : s.pins.lup.a
  · cases hlupB : (s.ctl.pben && s.pins.lup.b)
    · refine ⟨_, rfl, rfl, by simp, fun _ h1 h2 => ?_, fun _ _ => ⟨rfl, rfl⟩⟩
      simp [h1, h2] at hlupB
    · refine ⟨_, rfl, rfl, by simp, fun _ _ _ => ⟨rfl, rfl, rfl, rfl⟩, fun _ h => ?_⟩
      rw [Bool.and_eq_true] at hlupB
      simp [hlupB] at h
  · exact ⟨_, rfl, rfl, fun _ => ⟨rfl, rfl, rfl, rfl⟩, by simp, by simp⟩

end

/-- Settles O6: each row of step 4 lets its ticks pass and starts an attempt or ends one. -/
theorem selftestConversion : Obligations.SelftestConversion := by
  unfold Obligations.SelftestConversion
  intro s hstep
  obtain ⟨hmode, hs, hfree⟩ := (s.atStep_iff 4).1 hstep
  have hstep' (n : Nat) : (s.elapse n).atStep 4 = true := by rw [State.elapse_atStep, hstep]
  refine ⟨fun hidle hleft => ?_, fun hwait hleft => ?_, fun hwait hthird => ?_,
    fun bits hread hstore hwindow hbad => ?_,
    fun bits hread hgood => ?_⟩
  · refine ⟨_, exec_conversionAttempt hstep hidle hleft, ?_⟩
    have helapse := s.elapse_selftest hfree hmode (Config.attemptTicks - s.ctl.attemptTicks)
    obtain ⟨w, r, hbay⟩ := Bay.elapse_eq (Config.attemptTicks - s.ctl.attemptTicks) s.bay
    rw [helapse, hbay]
    exact ⟨rfl, rfl, rfl, hs, rfl, ⟨rfl, rfl, rfl, rfl, rfl, rfl⟩, rfl⟩
  · refine ⟨_, exec_adcTimeout_step4 hstep hwait, ?_⟩
    generalize Config.adcLimit - s.bay.wait = n
    obtain ⟨-, -, hfailRun, hrecord, hattempts, -⟩ := State.elapse_step4 hstep n
    obtain ⟨hmodeN, hstepN, -⟩ := s.elapse_ctl n
    obtain ⟨h1, h2, h3, h4, h5, -⟩ := State.endAttempt_failed (hstep' n)
    obtain ⟨hctl, hkept⟩ := h5 (by rwa [hattempts])
    simp only [State.driven_bay, State.driven_ctl]
    rw [hctl]
    exact ⟨h1, h2, h3.trans hfailRun, h4.trans hrecord, hmodeN.trans hmode, hstepN.trans hs, hattempts,
      State.ProtectionKept.trans hkept (State.elapse_protectionKept n)⟩
  · refine ⟨_, exec_adcTimeout_step4 hstep hwait, ?_⟩
    generalize Config.adcLimit - s.bay.wait = n
    obtain ⟨-, -, -, -, hattempts, -⟩ := State.elapse_step4 hstep n
    obtain ⟨-, -, -, -, -, h6⟩ := State.endAttempt_failed (hstep' n)
    exact h6 (by rwa [hattempts])
  · obtain ⟨n, hexec⟩ := exec_readComplete_step4 hstep hread bits
    have hjudged : (s.elapse n).attemptGood (adcCodes bits).2 = false := by
      rw [Bool.eq_false_iff, ne_eq, State.attemptGood_elapse]
      rintro (h | h | h)
      · exact hstore h
      · exact absurd h (not_le.2 hwindow)
      · exact hbad h
    rw [hjudged] at hexec
    refine ⟨_, hexec, ?_⟩
    obtain ⟨-, -, -, -, hattempts, -⟩ := State.elapse_step4 hstep n
    obtain ⟨hmodeN, hstepN, -⟩ := s.elapse_ctl n
    obtain ⟨h1, -, -, -, h5, h6⟩ := State.endAttempt_failed (hstep' n)
    refine ⟨h1, fun hleft => ?_, fun hthird => h6 (by rwa [hattempts])⟩
    simp only [State.driven_ctl]
    rw [(h5 (by rwa [hattempts])).1]
    exact ⟨hmodeN.trans hmode, hstepN.trans hs, hattempts⟩
  · obtain ⟨n, hexec⟩ := exec_readComplete_step4 hstep hread bits
    rw [(State.attemptGood_elapse n _).2 hgood] at hexec
    obtain ⟨-, hpins, -⟩ := s.elapse_fields n
    obtain ⟨hmodeN, -, hstore, hblock, -, hstrap, hpben, -⟩ := s.elapse_ctl n
    obtain ⟨-, -, hfailRun, hrecord, -⟩ := State.elapse_step4 hstep n
    let u : State := { s.elapse n with bay := { (s.elapse n).bay with conv := .idle, convLine := false } }
    have hframe : u.loopFrame = s.loopFrame := by
      simp only [State.loopFrame, State.loopHeader, State.header, State.groupAddress, State.linkType, State.set16,
        State.blockBytes, u, hstore, hblock, hstrap]
    obtain ⟨c, heq, hcmode, hA, hB, hNone⟩ := State.startStep3_eq (s := u)
    have hend : (s.elapse n).endAttempt true = { u with ctl := c } := heq
    refine ⟨_, hexec, ?_⟩
    rw [hend]
    rw [hframe, show u.pins = s.pins from hpins] at hA hB
    rw [show u.ctl.pben = s.ctl.pben from hpben] at hB
    rw [show u.pins = s.pins from hpins, show u.ctl.pben = s.ctl.pben from hpben] at hNone
    exact ⟨rfl, rfl, hrecord, hfailRun, hcmode.trans (hmodeN.trans hmode), hA, hB, hNone,
      State.elapse_protectionKept n⟩

/-! ### Step 3 (R54, R186) -/

section

variable {s : State}

/-- The loopback frame comes back good as it went out. -/
theorem State.loopFrame_good (h : s.ctl.store = .empty ∨ s.blockBytes.length = 58) :
    loopGood s.loopFrame false = true := by
  have hheader : s.loopHeader.length = 14 := by
    unfold State.loopHeader
    split_ifs with hempty
    · exact headerOf_length _ _ rfl
    · have hlength : s.blockBytes.length = 58 := h.resolve_left hempty
      refine headerOf_length _ _ ?_
      simp [State.groupAddress, hlength]
  have hpayload : loopPayload.length = 46 := by simp [loopPayload]
  have htake : (s.loopFrame.drop 14).take 46 = loopPayload := by
    rw [State.loopFrame, wireFrame_drop _ hheader, padPayload, hpayload, Nat.sub_self, List.replicate_zero,
      List.append_nil, ← hpayload, List.take_left]
  rw [loopGood, State.loopFrame, wireFrame_good hheader hpayload.le, wireFrame_length hheader hpayload.le]
  rw [State.loopFrame] at htake
  simp [htake]

/-- What the result of a loopback leaves of its path. -/
theorem PathCtl.loopResult_cases (passed : Bool) (q : PathCtl) : (q.loopResult passed).loopback = some passed
    ∧ (passed = true → q.loopResult passed = { q with loopback := some true })
    ∧ (passed = false → q.state ≠ .down →
        (q.loopResult passed).state = .failed ∧ (q.loopResult passed).health = 255) := by
  unfold PathCtl.loopResult
  cases passed
  · by_cases hdown : q.state = .down <;> simp [hdown]
  · simp

/-- After a path's loopback the next one starts, or step 2; the Mode Controller alone changes. -/
theorem State.nextLoop_eq (p : Path) : ∃ c, s.nextLoop p = { s with ctl := c }
    ∧ (p = .a ∧ s.ctl.pben = true ∧ s.pins.lup.b = true →
        c.step = s.ctl.step ∧ c.loopPath = some .b ∧ c.loopFrame = some s.loopFrame ∧ c.loopTicks = 0)
    ∧ (¬(p = .a ∧ s.ctl.pben = true ∧ s.pins.lup.b = true) →
        c.step = some 2 ∧ c.loopPath = none ∧ c.loopFrame = none) := by
  have hb : s.loopTests .b = (s.ctl.pben && s.pins.lup.b) := rfl
  cases p with
  | a =>
    unfold State.nextLoop
    dsimp only
    rw [hb]
    split_ifs with h
    · rw [Bool.and_eq_true] at h
      exact ⟨_, rfl, fun _ => ⟨rfl, rfl, rfl, rfl⟩, fun hno => absurd ⟨rfl, h⟩ hno⟩
    · rw [Bool.and_eq_true] at h
      exact ⟨_, rfl, fun hyes => absurd hyes.2 h, fun _ => ⟨rfl, rfl, rfl⟩⟩
  | b => exact ⟨_, rfl, fun hyes => absurd hyes.1 (by decide), fun _ => ⟨rfl, rfl, rfl⟩⟩

/-- The end of a path's loopback: the path's result, and what begins next. -/
theorem State.endLoop_eq (p : Path) (passed : Bool) : ∃ c,
    s.endLoop p passed = { s with link := s.link.onPath p (PathCtl.loopResult passed), ctl := c }
    ∧ (p = .a ∧ s.ctl.pben = true ∧ s.pins.lup.b = true →
        c.step = s.ctl.step ∧ c.loopPath = some .b ∧ c.loopFrame = some s.loopFrame ∧ c.loopTicks = 0)
    ∧ (¬(p = .a ∧ s.ctl.pben = true ∧ s.pins.lup.b = true) →
        c.step = some 2 ∧ c.loopPath = none ∧ c.loopFrame = none) := by
  obtain ⟨c, heq, hnext, hend⟩ :=
    State.nextLoop_eq (s := { s with link := s.link.onPath p (PathCtl.loopResult passed) }) p
  exact ⟨c, heq, hnext, hend⟩

/-- LOOPBACK_TIMEOUT: the ticks up to 1 ms pass and the loopback ends without success. -/
theorem exec_loopbackTimeout {p : Path} (hstep : s.atStep 3 = true) (hpath : s.ctl.loopPath = some p) :
    exec .loopbackTimeout s = .next ((s.elapse (Config.loopbackTicks - s.ctl.loopTicks)).endLoop p false).driven := by
  obtain ⟨hmode, hs, hfree⟩ := (s.atStep_iff 3).1 hstep
  have hticks : s.ticksTo .loop = some (Config.loopbackTicks - s.ctl.loopTicks) := by
    simp [State.ticksTo, hstep, hpath]
  have hconverts : s.converts = false := by simp [State.converts, State.working, hmode, hs]
  have hquiet : s.pass (Config.loopbackTicks - s.ctl.loopTicks)
      = s.elapse (Config.loopbackTicks - s.ctl.loopTicks) := by
    refine State.pass_selftest hstep (fun m hm => ?_) (fun m hm => ?_) fun m hm => ?_
    · simp [State.ticksTo, hconverts] at hm
    · simp [State.ticksTo, State.atStep_of_ne hstep (show 3 ≠ 4 by decide)] at hm
    · rw [hticks] at hm
      exact (Option.some.inj hm).le
  have hctl : (s.elapse (Config.loopbackTicks - s.ctl.loopTicks)).ctl.loopPath = some p
      ∧ (s.elapse (Config.loopbackTicks - s.ctl.loopTicks)).ctl.loopTicks
        = min Config.loopbackTicks (s.ctl.loopTicks + (Config.loopbackTicks - s.ctl.loopTicks)) := by
    rw [s.elapse_selftest hfree hmode]
    simp [Ctl.elapse, hpath]
  have hdue : (s.elapse (Config.loopbackTicks - s.ctl.loopTicks)).ticksTo .loop = some 0 := by
    have hstep' : (s.elapse (Config.loopbackTicks - s.ctl.loopTicks)).atStep 3 = true := by
      rw [State.elapse_atStep, hstep]
    simp only [State.ticksTo, hstep', hctl, Option.isSome_some, Bool.and_self, if_true]
    congr 1
    omega
  rw [exec, execLoopbackTimeout, answer_eq, State.timedRow_selftest hstep hticks hquiet, State.takeDue, if_pos hdue,
    State.takeTimed, hctl.1]

end

/-- Settles O7: a path's loopback ends with its result, by the frame's return or by the timeout. -/
theorem loopback : Obligations.Loopback := by
  unfold Obligations.Loopback
  refine ⟨fun s h => State.loopFrame_good h, fun s p hstep hpath => ⟨fun frame e hintime => ?_, ?_⟩⟩
  · obtain ⟨-, hs, -⟩ := (s.atStep_iff 3).1 hstep
    obtain ⟨c, heq, hnext, hend⟩ := State.endLoop_eq (s := s) p (loopGood frame e)
    have hexec : exec (.loopbackReturn frame e) s = .next (s.endLoop p (loopGood frame e)).driven := by
      rw [exec, execLoopbackReturn, answer_eq]
      simp [hpath, hstep, show s.ctl.loopTicks ≤ Config.loopbackTicks from hintime]
    obtain ⟨hresult, hpassed, hfailed⟩ := PathCtl.loopResult_cases (loopGood frame e) (s.link.paths.get p)
    rw [heq] at hexec
    refine ⟨_, hexec, ?_⟩
    simp only [State.driven_link, Link.get_onPath, if_true, if_neg (Path.other_ne p)]
    exact ⟨hresult, hpassed, hfailed, trivial, fun h => by
        obtain ⟨h1, h2⟩ := hnext h
        exact ⟨h1.trans hs, h2⟩,
      hend, rfl, rfl, rfl, rfl, rfl, rfl, rfl, rfl, rfl⟩
  · refine ⟨_, exec_loopbackTimeout hstep hpath, ?_⟩
    generalize Config.loopbackTicks - s.ctl.loopTicks = n
    obtain ⟨-, -, -, hlink, -⟩ := s.elapse_fields n
    obtain ⟨c, heq, -⟩ := State.endLoop_eq (s := s.elapse n) p false
    obtain ⟨hresult, -, hfailed⟩ := PathCtl.loopResult_cases false (s.link.paths.get p)
    rw [heq]
    simp only [State.driven_link, Link.get_onPath, if_true, if_neg (Path.other_ne p), hlink]
    exact ⟨hresult, hfailed rfl, trivial, State.elapse_protectionKept n⟩

/-! ### Steps 2 and 1 (R186, R189) -/

section

variable {s : State}

/-- In another mode than RUN and TEST there is nothing to leave. -/
theorem State.leaveMode_of_idle (h : s.ctl.mode ≠ .run) (h1 : s.ctl.mode ≠ .test) : s.leaveMode = s := by
  simp [State.leaveMode, h, h1]

/-- What the entry values start afresh: roster, replica and Differential Unit. -/
theorem State.entryValues_startsAfresh (test : Bool) : s.StartsAfresh (s.entryValues test).driven := by
  refine ⟨fun n hn => ?_, fun n hn => ?_, rfl, fun n hn => ?_, fun n hn => ?_, rfl, rfl⟩
  · simp [State.entry, State.entryValues, Roster.entry, hn, ownEntry]
  · simp [State.entry, State.entryValues, Roster.entry, hn]
  · simp [State.entryValues, Replica.entry, hn]
  · simp [State.entryValues, Replica.entry, hn]

/-- What the entry to RUN makes of the paths. -/
theorem State.entryValues_pathsEnterRun : s.PathsEnterRun (s.entryValues false).driven := by
  refine ⟨rfl, rfl, fun p => ?_⟩
  have hpath : (s.entryValues false).driven.link.paths.get p = (s.link.paths.get p).entry := by cases p <;> rfl
  rw [hpath]
  refine ⟨fun h => ?_, fun h => ?_⟩
  · rw [PathCtl.entry, if_pos h]
    rfl
  · rw [PathCtl.entry, if_neg h]
    rfl

/-- In RUN with no reset STATUS CODE is 0. -/
theorem State.statusOut_run (h : s.resetHeld = false) (h1 : s.ctl.mode = .run) : s.outputs.statusCode = 0 :=
  (s.statusOut_of_free h).1 h1

/-- In CONFIG with no reset STATUS CODE is 9. -/
theorem State.statusOut_config (h : s.resetHeld = false) (h1 : s.ctl.mode = .config) : s.outputs.statusCode = 9 :=
  (s.statusOut_of_free h).2.1 h1

end

/-- Settles O8: step 2 ends in step 1, which enters RUN with the entry values or CONFIG, or in a halt. -/
theorem mclkCheck : Obligations.MclkCheck := by
  unfold Obligations.MclkCheck
  intro s count hstep
  obtain ⟨hmode, -, hfree⟩ := (s.atStep_iff 2).1 hstep
  have hleave : (s.toStep 1).leaveMode = s.toStep 1 :=
    State.leaveMode_of_idle (by simp [hmode]) (by simp [hmode])
  refine ⟨fun hlo hhi hstore => ?_, fun hlo hhi hstore => ?_, fun hout => ?_⟩
  · have hexec : exec (.mclkCheck count) s = .next ((s.toStep 1).entryValues false).driven := by
      rw [exec, execMclkCheck, if_pos hstep, if_pos ⟨hlo, hhi⟩, State.endSelftest, State.toStep_ctl, if_pos hstore,
        State.enterRun,
        hleave, answer_eq]
    exact ⟨_, hexec, rfl, rfl, State.statusOut_run hfree rfl, rfl, rfl, rfl, rfl, rfl, rfl, rfl, hstore,
      State.entryValues_startsAfresh (s := s.toStep 1) false, State.entryValues_pathsEnterRun (s := s.toStep 1)⟩
  · have hexec : exec (.mclkCheck count) s = .next (s.toStep 1).enterConfig.driven := by
      rw [exec, execMclkCheck, if_pos hstep, if_pos ⟨hlo, hhi⟩, State.endSelftest, State.toStep_ctl, if_neg hstore,
        answer_eq]
    rw [State.enterConfig, hleave] at hexec
    exact ⟨_, hexec, rfl, State.statusOut_config hfree rfl, rfl, rfl, rfl, rfl, rfl, rfl, rfl, rfl, rfl, rfl⟩
  · have hexec : exec (.mclkCheck count) s = .next (s.failStep 2).driven := by
      rw [exec, execMclkCheck, if_pos hstep, if_neg (by omega), answer_eq]
    obtain ⟨h1, h2, h3, -⟩ := State.failStep_of_selftest hmode hfree 2
    exact ⟨_, hexec, h1, h2, h3⟩

end Sys2Proof.Machine
end

section
/-! PROOFS. The service line: characters and lines, LOAD, the commands, EXAMINE and the end of a reply. -/

namespace Sys2Proof.Machine

/-! ### The rows of R195 -/

section

variable (s : State) {l : Line} {w : List Byte} {rest : List (List Byte)}

/-- A change of the Service Line Interface alone. -/
theorem State.onlyService_svc (v : Service) : s.OnlyService ({ s with svc := v } : State).driven :=
  ⟨rfl, rfl, rfl, rfl, rfl, rfl, rfl, rfl, rfl, rfl, rfl, rfl, rfl⟩

theorem State.interpret_long (hw : wordsOf l.buf = w :: rest) (h : l.long = true) :
    s.interpret l = s.replyError .long := by
  rw [State.interpret, hw]
  simp only [h, if_true]

theorem State.interpret_framing (hw : wordsOf l.buf = w :: rest) (h : l.long = false) (h1 : l.framing = true) :
    s.interpret l = s.replyError .illCmd := by
  rw [State.interpret, hw]
  simp only [h, h1, if_true, Bool.false_eq_true, if_false]

/-- A line without a flag, by its name and the mode. -/
theorem State.interpret_plain (hw : wordsOf l.buf = w :: rest) (h : l.long = false) (h1 : l.framing = false) :
    s.interpret l = if commandOf w = some .load then s.awaitSum l
      else if s.ctl.mode = .selftest then s.replyError .busy else s.runCommand (commandOf w) rest := by
  rw [State.interpret, hw]
  simp only [h, h1, Bool.false_eq_true, if_false]

/-- A command other than LOAD outside SELFTEST. -/
theorem State.interpret_command {c : Command} (hw : wordsOf l.buf = w :: rest) (h : l.long = false)
    (h1 : l.framing = false) (hc : commandOf w = some c) (hload : c ≠ .load) (hmode : s.ctl.mode ≠ .selftest) :
    s.interpret l = if commandRow c rest = .illCmd then s.replyError .illCmd
      else if c.taken s.ctl.mode then s.carryOut c rest else s.replyError .mode := by
  rw [s.interpret_plain hw h h1, hc, if_neg (fun he => hload (Option.some.inj he)), if_neg hmode, State.runCommand]
  cases c.taken s.ctl.mode <;> rfl

/-- The line of the LOAD row. -/
theorem State.interpret_loadRow (h : lineRow l = .load) : s.interpret l = s.awaitSum l := by
  obtain ⟨w, rest, c, hw, hlong, hframing, hc, hrow⟩ := command_of_row l .load h (by decide) (by decide)
  have hload : c = .load := by
    cases c <;> cases rest <;> simp [commandRow, examineRow] at hrow ⊢
    split_ifs at hrow
  rw [s.interpret_plain hw hlong hframing, hc, hload, if_pos rfl]

/-- A line of any other row than LOAD, ILL_CMD and LINE_DROPPED names a command other than LOAD. -/
theorem command_of_otherRow (h : lineRow l ≠ .dropped) (h1 : lineRow l ≠ .illCmd) (h2 : lineRow l ≠ .load) :
    ∃ w rest c, wordsOf l.buf = w :: rest ∧ l.long = false ∧ l.framing = false ∧ commandOf w = some c ∧ c ≠ .load
      ∧ commandRow c rest = lineRow l := by
  obtain ⟨w, rest, c, hw, hlong, hframing, hc, hrow⟩ := command_of_row l _ rfl h1 h
  refine ⟨w, rest, c, hw, hlong, hframing, hc, ?_, hrow⟩
  rintro rfl
  exact h2 hrow.symm

/-- In SELFTEST every command but LOAD is BUSY. -/
theorem State.interpret_busy (h : lineRow l ≠ .dropped) (h1 : lineRow l ≠ .illCmd) (h2 : lineRow l ≠ .load)
    (hmode : s.ctl.mode = .selftest) : s.interpret l = s.replyError .busy := by
  obtain ⟨w, rest, c, hw, hlong, hframing, hc, hload, -⟩ := command_of_otherRow h h1 h2
  rw [s.interpret_plain hw hlong hframing, hc, if_neg (fun he => hload (Option.some.inj he)), if_pos hmode]

/-- The line of the ILL_CMD row, by its flags and the mode. -/
theorem State.interpret_illRow (h : lineRow l = .illCmd) : s.interpret l = s.replyError
    (if l.long then .long else if l.framing then .illCmd else if s.ctl.mode = .selftest then .busy else .illCmd) := by
  obtain ⟨w, rest, hw⟩ := wordsOf_of_row l (by simp [h])
  cases hlong : l.long
  · cases hframing : l.framing
    · rw [lineRow, hw] at h
      simp only [hlong, hframing] at h
      rw [s.interpret_plain hw hlong hframing]
      cases hc : commandOf w with
      | none => by_cases hmode : s.ctl.mode = .selftest <;> simp [hmode, State.runCommand]
      | some c =>
        have hrow : commandRow c rest = .illCmd := by simpa [hc] using h
        have hload : c ≠ .load := by
          rintro rfl
          simp [commandRow] at hrow
        by_cases hmode : s.ctl.mode = .selftest <;> simp [hmode, hload, hrow, State.runCommand]
    · rw [s.interpret_framing hw hlong hframing]
      simp
  · rw [s.interpret_long hw hlong]
    simp

/-- The lines of a command that takes no argument. -/
theorem command_of_plainRow {c : Command} (hload : c ≠ .load) (hexamine : c ≠ .examine)
    (h : lineRow l = commandRow c []) : ∃ w, wordsOf l.buf = [w] ∧ l.long = false ∧ l.framing = false
      ∧ commandOf w = some c := by
  have hplain : commandRow c [] ≠ .dropped ∧ commandRow c [] ≠ .illCmd := by
    cases c <;> simp [commandRow, examineRow]
  obtain ⟨w, rest, d, hw, hlong, hframing, hd, hrow⟩ := command_of_row l _ h hplain.2 hplain.1
  cases rest with
  | nil =>
    have hcd : d = c := by
      cases c <;> cases d <;> simp [commandRow, examineRow] at hload hexamine hrow ⊢
    exact ⟨w, hw, hlong, hframing, hcd ▸ hd⟩
  | cons v vs =>
    exfalso
    have hexamineRow : examineRow (v :: vs) = .examineNext ∨ examineRow (v :: vs) = .examineAgain
        ∨ examineRow (v :: vs) = .examine := by
      dsimp only [examineRow]
      split_ifs <;> simp
    cases c <;> cases d <;> simp [commandRow] at hload hexamine hrow <;>
      rw [hrow] at hexamineRow <;> simp at hexamineRow

/-- A command that takes no argument and is taken in the mode is carried out. -/
theorem State.interpret_taken {c : Command} (hload : c ≠ .load) (hexamine : c ≠ .examine)
    (h : lineRow l = commandRow c []) (hmode : s.ctl.mode ≠ .selftest) (htaken : c.taken s.ctl.mode = true) :
    s.interpret l = s.carryOut c [] := by
  obtain ⟨w, hw, hlong, hframing, hc⟩ := command_of_plainRow hload hexamine h
  have hrow : commandRow c [] ≠ .illCmd := by cases c <;> simp [commandRow, examineRow]
  rw [s.interpret_command hw hlong hframing hc hload hmode, if_neg hrow, if_pos htaken]

/-- A command that takes no argument and is not taken in the mode is answered ?02 MODE. -/
theorem State.interpret_notTaken {c : Command} (hload : c ≠ .load) (hexamine : c ≠ .examine)
    (h : lineRow l = commandRow c []) (hmode : s.ctl.mode ≠ .selftest) (htaken : c.taken s.ctl.mode = false) :
    s.interpret l = s.replyError .mode := by
  obtain ⟨w, hw, hlong, hframing, hc⟩ := command_of_plainRow hload hexamine h
  have hrow : commandRow c [] ≠ .illCmd := by cases c <;> simp [commandRow, examineRow]
  rw [s.interpret_command hw hlong hframing hc hload hmode, if_neg hrow, if_neg (by simp [htaken])]

/-! ### The CR of a line (R194 to R196) -/

variable {s}

/-- A row that no LINE_DROPPED is runs the line's command; the CR of any row but ILL_CMD has no framing error. -/
theorem exec_lineCommand {r : LineRow} {e : Bool} (cs : List Byte) (h : r ≠ .dropped) (h1 : r ≠ .illCmd → e = false) :
    exec (r.command cs e) s = .next (s.lineCommand r cs e).driven := by
  cases r with
  | dropped => exact absurd rfl h
  | illCmd => rfl
  | load => rw [h1 (by decide)]; rfl
  | commit => rw [h1 (by decide)]; rfl
  | test => rw [h1 (by decide)]; rfl
  | endtest => rw [h1 (by decide)]; rfl
  | stop => rw [h1 (by decide)]; rfl
  | warm => rw [h1 (by decide)]; rfl
  | ack => rw [h1 (by decide)]; rfl
  | examine => rw [h1 (by decide)]; rfl
  | examineNext => rw [h1 (by decide)]; rfl
  | examineAgain => rw [h1 (by decide)]; rfl

/-- A line whose row is neither LINE_DROPPED nor ILL_CMD ends with a CR without framing error. -/
theorem framing_of_row {cs : List Byte} {e : Bool} (h : lineRow (s.lineEnded cs e) ≠ .dropped)
    (h1 : lineRow (s.lineEnded cs e) ≠ .illCmd) : e = false := by
  obtain ⟨w, rest, c, -, -, hframing, -⟩ := command_of_row _ _ rfl h1 h
  simp only [State.lineEnded, Bool.or_eq_false_iff] at hframing
  exact hframing.2

/-- In COLLECTING the CR of a line interprets it, the line being cleared. -/
theorem exec_row_collecting {cs : List Byte} {e : Bool} {r : LineRow} (hfree : s.resetHeld = false)
    (hiface : s.svc.iface = .collecting) (h : lineRow (s.lineEnded cs e) = r) (h1 : r ≠ .dropped) :
    exec (r.command cs e) s = .next (s.clearLine.interpret (s.lineEnded cs e)).driven := by
  subst h
  rw [exec_lineCommand cs h1 (framing_of_row h1), s.lineCommand_collecting _ cs e hfree hiface rfl]

end

/-- What a character makes of the line. -/
theorem Line.take_cases (l : Line) (b : Byte) (e : Bool) : (e = true → l.take b e = { l with framing := true })
    ∧ (e = false → b = 0x0A#8 → l.take b e = l)
    ∧ (e = false → b ≠ 0x0A#8 → l.buf.length < 64 → l.take b e = { l with buf := l.buf ++ [b] })
    ∧ (e = false → b ≠ 0x0A#8 → 64 ≤ l.buf.length → l.take b e = { l with long := true }) := by
  refine ⟨?_, ?_, ?_, ?_⟩
  · rintro rfl
    rfl
  · rintro rfl rfl
    rfl
  · rintro rfl hlf hshort
    rw [Line.take, if_neg (by decide), if_neg (show b ≠ lfByte from hlf),
      if_pos (show l.buf.length < Config.lineCap from hshort)]
  · rintro rfl hlf hlong
    rw [Line.take, if_neg (by decide), if_neg (show b ≠ lfByte from hlf),
      if_neg (show ¬l.buf.length < Config.lineCap from not_lt.2 hlong)]

section

variable {s : State}

/-- A station that collects has no transfer overdue. -/
theorem State.lateLoad_collects (h : s.collects = true) : s.lateLoad = s := by
  simp only [State.collects, Bool.and_eq_true, Bool.or_eq_true, beq_iff_eq] at h
  obtain ⟨-, hiface | ⟨hiface, -⟩⟩ := h
  · exact s.lateLoad_collecting hiface
  · exact s.lateLoad_replying hiface

/-- While a line is held no character is taken. -/
theorem State.collects_of_held {l : Line} (hiface : s.svc.iface = .replying) (h : s.svc.held = some l) :
    s.collects = false := by
  simp [State.collects, hiface, h]

/-- While nothing is taken no CR is the end of a line. -/
theorem exec_command_ignored (h : s.lateLoad = s) (h1 : s.collects = false) (r : LineRow) (cs : List Byte) (e : Bool) :
    exec (r.command cs e) s = .next s.driven := by
  have hignored (e : Bool) : s.lineCommand r cs e = s := by
    rw [State.lineCommand]
    simp [h, h1]
  by_cases hdropped : r = .dropped
  · subst hdropped
    change answer _ = _
    simp [h, h1]
  · by_cases hill : r = .illCmd
    · rw [exec_lineCommand cs hdropped (fun hne => absurd hill hne), hignored]
    · have hcommand : r.command cs e = r.command cs false := by
        cases r with
        | illCmd => exact absurd rfl hill
        | _ => rfl
      rw [hcommand, exec_lineCommand cs hdropped (fun _ => rfl), hignored]

end

/-- Settles O47: a character is taken by `Line.take`; a CR clears or holds the line, or finds nothing taken. -/
theorem characters : Obligations.Characters := by
  unfold Obligations.Characters
  refine ⟨fun s hcollects => ⟨fun b e hcr => ?_, fun cs hwords => ?_⟩, fun s hfree hiface => ⟨?_, ?_⟩⟩
  · have hexec : exec (.characterReceived b e) s = .next (s.takeChar b e).driven := by
      have hchar : (b != crChar) = true := bne_iff_ne.2 hcr
      rw [exec, execCharacterReceived, answer_eq, State.lateLoad_collects hcollects]
      simp only [hcollects, hchar, Bool.and_self, if_true]
    exact ⟨_, hexec, s.onlyService_svc _, rfl, s.svc.line.take_cases b e⟩
  · have hexec : exec (.lineDropped cs) s = .next s.clearLine.driven := by
      have hrow : lineRow (s.lineEnded cs false) = .dropped := by rw [lineRow, hwords]
      rw [exec, execLineDropped, answer_eq, State.lateLoad_collects hcollects]
      simp only [hcollects, hrow, beq_self_eq_true, Bool.and_self, if_true]
    exact ⟨_, hexec, s.onlyService_svc _, rfl⟩
  · intro r cs e hheld hrow hdropped
    subst hrow
    refine ⟨_, exec_lineCommand cs hdropped (framing_of_row hdropped), ?_⟩
    rw [s.lineCommand_replying _ cs e hfree hiface hheld rfl]
    exact ⟨s.onlyService_svc _, rfl⟩
  · intro l hheld
    have hcollects := State.collects_of_held hiface hheld
    have hlate := s.lateLoad_replying hiface
    refine ⟨fun b e => ⟨s.driven, ?_, s.onlyService_svc _, rfl⟩, fun r cs e =>
      ⟨s.driven, exec_command_ignored hlate hcollects r cs e, s.onlyService_svc _, rfl⟩⟩
    rw [exec, execCharacterReceived, answer_eq, hlate]
    simp [hcollects]

/-- Settles O48: the line is cleared and answered by its flags and the mode. -/
theorem illCmd : Obligations.IllCmd := by
  unfold Obligations.IllCmd
  intro s cs e hfree hiface hreply hrow
  have hexec := exec_row_collecting hfree hiface hrow (by decide)
  rw [s.clearLine.interpret_illRow hrow] at hexec
  refine ⟨_, hexec, s.onlyService_svc _, rfl, rfl, rfl, ?_, ?_, ?_⟩ <;>
    simp +contextual [State.replyError, hreply]

/-! ### The time of a transfer (R197, R198) -/

theorem Service.timerRuns_iff (v : Service) : v.timerRuns = true ↔ v.iface = .loadSum ∨ v.iface = .loadEnd
    ∨ (v.iface = .loadData ∧ (v.promptBusy = false ∨ v.count ≠ 0)) := by
  unfold Service.timerRuns
  cases v.iface <;> simp

theorem Service.overdue_iff (v : Service) :
    v.overdue = true ↔ v.timerRuns = true ∧ v.allowance < v.timer := by
  simp [Service.overdue]

section

variable {s : State}

theorem State.ifaceIs_eq {i : IfState} (h : s.resetHeld = false) (h1 : s.svc.iface = i) : s.ifaceIs i = true := by
  simp [State.ifaceIs, h, h1]

/-- A byte that is overdue ends the transfer and is taken into a new line. -/
theorem State.loadByte_late {i : IfState} {b : Byte} (e : Bool) (f : State → State) (h : s.ifaceIs i = true)
    (h1 : s.svc.overdue = true) (hcr : b ≠ 0x0D#8) : s.loadByte i b e f = s.timeOut.takeChar b e := by
  rw [State.loadByte, h, h1, if_neg (by decide), if_pos rfl, State.lateByte,
    if_neg (show b ≠ crChar from hcr)]

/-- Without a reset ticks pass for the transfer timer. -/
theorem State.elapse_svc (h : s.resetHeld = false) (n : Nat) : (s.elapse n).svc = s.svc.elapse n := by
  obtain ⟨hporst, hwrst⟩ := s.resetHeld_eq_false.1 h
  simp only [State.elapse, hporst, hwrst, Bool.false_eq_true, if_false]
  cases s.ctl.mode <;> rfl

/-- Without a reset ticks pass for the tick count. -/
theorem State.elapse_tick (h : s.resetHeld = false) (n : Nat) :
    (s.elapse n).clock.tick = s.clock.tick + BitVec.ofNat 32 n := by
  obtain ⟨hporst, hwrst⟩ := s.resetHeld_eq_false.1 h
  simp only [State.elapse, hporst, hwrst, Bool.false_eq_true, if_false]
  cases s.ctl.mode <;> rfl

/-- Undisturbed ticks pass, and a command that carries them takes nothing else. -/
theorem State.Undisturbed.settles {n : Nat} (h : s.Undisturbed n) :
    s.settleDue = s ∧ s.passes n = true ∧ s.pass n = s.elapse n := by
  obtain ⟨hstep, hhead, hpasses, htimed⟩ := h
  exact ⟨s.settleDue_none hstep hhead, hpasses, s.pass_quiet n ((s.firstTimed_eq_none n).2 htimed)⟩

/-- A transfer whose ticks pass undisturbed ends by timeout. -/
theorem State.loadTimeout_undisturbed {n : Nat} (hn : s.svc.allowance - s.svc.timer = n) (h : s.Undisturbed n) :
    s.loadTimeout = (s.elapse n).timeOut := by
  obtain ⟨hsettle, hpasses, hpass⟩ := h.settles
  rw [State.loadTimeout]
  simp only [hsettle, hn, hpasses, hpass, if_true]

/-- What a transfer that ends by timeout leaves of the interface. -/
theorem State.elapse_timeOut (h : s.resetHeld = false) (n : Nat) :
    (s.elapse n).timeOut.svc.iface = .collecting
      ∧ (s.elapse n).timeOut.svc.reply = s.svc.reply ++ [.error .tmout] := by
  obtain ⟨timer, hsvc⟩ := Service.elapse_eq n s.svc
  simp only [State.timeOut_svc, s.elapse_svc h n, hsvc]
  exact ⟨trivial, trivial⟩

/-! ### The LOAD line and its checksum byte (R197) -/

/-- In LOAD-SUM a byte within 2 s is judged. -/
theorem exec_loadChecksumByte (hfree : s.resetHeld = false) (hiface : s.svc.iface = .loadSum)
    (htime : s.svc.timer ≤ 48000000) (b : Byte) (e : Bool) :
    exec (.loadChecksumByte b e) s = .next (s.judgeLoad b e).driven := by
  have hallowance : s.svc.allowance = 48000000 := by simp [Service.allowance, hiface, Config.twoSeconds]
  have hintime : s.svc.overdue = false := by
    rw [Bool.eq_false_iff, ne_eq, Service.overdue_iff, hallowance]
    exact fun h => absurd h.2 (not_lt.2 htime)
  rw [exec, execLoadChecksumByte, answer_eq, s.loadByte_taken _ _ _ _ (State.ifaceIs_eq hfree hiface) hintime]

end

/-- The first data byte and the checksums of a transfer have 2 s. -/
theorem Service.allowance_loadSum {v : Service} (h : v.iface = .loadSum) : v.allowance = 48000000 := by
  simp [Service.allowance, h, Config.twoSeconds]

/-- Settles O49: the LOAD line awaits its byte, which the rows of R197 judge; late, or not at all, it ends the LOAD. -/
theorem loadLine : Obligations.LoadLine := by
  unfold Obligations.LoadLine
  intro s hfree
  dsimp only
  refine ⟨fun cs hiface hrow => ?_, fun hiface => ⟨fun b e htime => ?_, fun b e hlate hcr => ?_,
    fun htime hquiet => ?_⟩⟩
  · have hexec := exec_row_collecting hfree hiface hrow (by decide)
    rw [s.clearLine.interpret_loadRow hrow] at hexec
    exact ⟨_, hexec, s.onlyService_svc _, rfl, rfl, rfl, rfl, rfl⟩
  · have hexec := exec_loadChecksumByte hfree hiface htime b e
    have answered {x : ErrLine} (h : s.judgeLoad b e = s.replyError x) :
        ∃ t, exec (.loadChecksumByte b e) s = .next t ∧ s.OnlyService t ∧ t.svc.iface = .replying
          ∧ t.svc.reply = s.svc.reply ++ [.error x] :=
      ⟨_, hexec, by rw [h]; exact ⟨s.onlyService_svc _, rfl, rfl⟩⟩
    refine ⟨fun hmode => answered ?_, fun hmode he => answered ?_, fun hmode hconfig he => answered ?_,
      fun hmode he hsum => answered ?_, fun hmode he hsum hcount => answered ?_, fun hmode he hsum hcount => ?_⟩
    · rw [State.judgeLoad, if_pos hmode]
    · rw [State.judgeLoad, if_neg hmode, if_pos he]
    · rw [State.judgeLoad, if_neg hmode, if_neg (by simp [he]), if_pos hconfig]
    · rw [State.judgeLoad, if_neg (by simp [hmode]), if_neg (by simp [he]), if_neg (by simp [hmode]), if_pos hsum]
    · rw [State.judgeLoad, if_neg (by simp [hmode]), if_neg (by simp [he]), if_neg (by simp [hmode]),
        if_neg (by simp [hsum]), if_pos hcount]
    · have hbegin : s.judgeLoad b e = s.beginData := by
        rw [State.judgeLoad, if_neg (by simp [hmode]), if_neg (by simp [he]), if_neg (by simp [hmode]),
          if_neg (by simp [hsum]), if_neg (not_not.2 hcount)]
      rw [hbegin] at hexec
      exact ⟨_, hexec, rfl, rfl, rfl, rfl, rfl, rfl, rfl, rfl, rfl, rfl, rfl, rfl, rfl, rfl, rfl, rfl, rfl⟩
  · have hoverdue : s.svc.overdue = true := by
      rw [Service.overdue_iff, Service.timerRuns_iff, Service.allowance_loadSum hiface]
      exact ⟨.inl hiface, hlate⟩
    refine ⟨(s.timeOut.takeChar b e).driven, ?_, s.onlyService_svc _, rfl, rfl, rfl⟩
    rw [exec, execLoadChecksumByte, answer_eq, State.loadByte_late e _ (State.ifaceIs_eq hfree hiface) hoverdue hcr]
  · generalize hn : 48000000 - s.svc.timer = n at hquiet ⊢
    have hexec : exec .loadSumTimeout s = .next (s.elapse n).timeOut.driven := by
      rw [exec, execLoadSumTimeout, answer_eq, if_pos (State.ifaceIs_eq hfree hiface),
        State.loadTimeout_undisturbed (by rw [Service.allowance_loadSum hiface, hn]) hquiet]
    obtain ⟨hmode, -, hstore, hblock, -⟩ := s.elapse_ctl n
    obtain ⟨hcollecting, hreply⟩ := State.elapse_timeOut hfree n
    have htick := State.elapse_tick hfree n
    have hkept := (State.elapse_protectionKept (s := s) n).symm
    generalize s.elapse n = u at *
    exact ⟨_, hexec, hcollecting, hreply, hstore, hblock, hmode, htick, hkept⟩

/-! ### The data phase (R198) -/

/-- What a data byte leaves of the interface. -/
theorem Service.takeData_iface (v : Service) (b : Byte) (e : Bool) :
    ((v.takeData b e).iface = .loadEnd ↔ 57 ≤ v.count) ∧ ((v.takeData b e).iface = .loadData ↔ v.count < 57) := by
  simp only [Service.takeData, Config.blockSize]
  split_ifs with h
  · exact ⟨iff_of_true rfl (by omega), iff_of_false (by decide) (by omega)⟩
  · exact ⟨iff_of_false (by decide) (by omega), iff_of_true rfl (by omega)⟩

/-- A late byte finds the transfer ended and is the first of a new line. -/
theorem State.lateByte_ended {s : State} (b : Byte) (e : Bool) :
    ((s.timeOut.takeChar b e).driven.svc.iface = .collecting
      ∧ (s.timeOut.takeChar b e).driven.svc.reply = s.svc.reply ++ [.error .tmout]
      ∧ (s.timeOut.takeChar b e).driven.ctl = s.ctl ∧ (s.timeOut.takeChar b e).driven.link = s.link
      ∧ (s.timeOut.takeChar b e).driven.bay = s.bay ∧ s.ProtectionKept (s.timeOut.takeChar b e).driven)
    ∧ (s.timeOut.takeChar b e).driven.clock = s.clock
    ∧ (s.timeOut.takeChar b e).driven.svc.line = s.svc.line.take b e :=
  ⟨⟨rfl, rfl, rfl, rfl, rfl, rfl, rfl, rfl, rfl, rfl, rfl⟩, rfl, rfl⟩

/-- Settles O50: a byte in time is taken by its state of the transfer; a late one, or none, ends the transfer. -/
theorem loadData : Obligations.LoadData := by
  unfold Obligations.LoadData
  intro s hfree hmode
  dsimp only
  have hallowance : s.svc.allowance = if s.svc.iface = .loadData ∧ s.svc.count ≠ 0 then 2400000 else 48000000 := rfl
  rw [← hallowance]
  have hruns : (s.svc.iface = .loadEnd ∨ (s.svc.iface = .loadData ∧ (s.svc.promptBusy = false ∨ s.svc.count ≠ 0)))
      → s.svc.timerRuns = true := fun h => s.svc.timerRuns_iff.2 (.inr h)
  have hlateIff (hiface : s.svc.iface ≠ .loadSum) : s.svc.overdue = true ↔
      (s.svc.iface = .loadEnd ∨ (s.svc.iface = .loadData ∧ (s.svc.promptBusy = false ∨ s.svc.count ≠ 0)))
        ∧ s.svc.allowance < s.svc.timer := by
    rw [Service.overdue_iff, Service.timerRuns_iff, or_iff_right hiface]
  refine ⟨fun hiface hbusy hlate => ?_, fun b e hiface hlate => ?_, fun b e hiface hlate => ?_, fun b e hlate hcr => ?_,
    fun hrun hquiet => ?_⟩
  · have hintime : s.svc.overdue = false := by
      rw [Bool.eq_false_iff, ne_eq, hlateIff (by simp [hiface])]
      exact hlate
    refine ⟨_, ?_, s.onlyService_svc { s.svc with promptBusy := false, timer := 0, reply := [] }, rfl⟩
    have hsame : s.lateLoad = s := by simp [State.lateLoad, hintime]
    rw [exec, execPromptLfSent, answer_eq, hsame]
    simp only [State.ifaceIs_eq hfree hiface, hbusy, Bool.and_self, if_true]
  · have hintime : s.svc.overdue = false := by
      rw [Bool.eq_false_iff, ne_eq, hlateIff (by simp [hiface])]
      exact hlate
    refine ⟨_, ?_, s.onlyService_svc (s.svc.takeData b e), rfl, rfl, rfl, rfl, rfl, s.svc.takeData_iface b e⟩
    rw [exec, execLoadDataByte, answer_eq, s.loadByte_taken _ _ _ _ (State.ifaceIs_eq hfree hiface) hintime]
  · have hintime : s.svc.overdue = false := by
      rw [Bool.eq_false_iff, ne_eq, hlateIff (by simp [hiface])]
      exact hlate
    have hexec : exec (.loadDataChecksum b e) s = .next (s.judgeData b e).driven := by
      rw [exec, execLoadDataChecksum, answer_eq, s.loadByte_taken _ _ _ _ (State.ifaceIs_eq hfree hiface) hintime]
    refine ⟨fun hbad => ?_, fun hframing hsum => ?_⟩
    · have hjudged : s.judgeData b e = s.replyError .chksm := by
        unfold State.judgeData
        split_ifs with h1 h2
        · rfl
        · rfl
        · exact absurd hbad (by simp [h1, not_not.1 h2])
      rw [hjudged] at hexec
      exact ⟨_, hexec, s.onlyService_svc _, rfl, rfl⟩
    · have hjudged : s.judgeData b e
          = State.replyOk { s with ctl := { s.ctl with store := .loaded, block := some s.svc.data } } := by
        rw [State.judgeData, if_neg (by simp [hframing]), if_neg (by simp [hsum])]
      rw [hjudged] at hexec
      exact ⟨_, hexec, rfl, rfl, rfl, rfl, rfl, rfl, rfl, rfl, rfl, rfl, rfl, rfl⟩
  · have ended := State.lateByte_ended (s := s) b e
    refine ⟨fun hiface => ⟨_, ?_, ended⟩, fun hiface => ⟨_, ?_, ended⟩⟩
    · rw [exec, execLoadDataByte, answer_eq, State.loadByte_late e _ (State.ifaceIs_eq hfree hiface)
        ((hlateIff (by simp [hiface])).2 hlate) hcr]
    · rw [exec, execLoadDataChecksum, answer_eq, State.loadByte_late e _ (State.ifaceIs_eq hfree hiface)
        ((hlateIff (by simp [hiface])).2 hlate) hcr]
  · generalize hn : s.svc.allowance - s.svc.timer = n at hquiet ⊢
    have hiface : (s.ifaceIs .loadData || s.ifaceIs .loadEnd) = true := by
      rcases hrun with h | ⟨h, -⟩
      · rw [State.ifaceIs_eq hfree h, Bool.or_true]
      · rw [State.ifaceIs_eq hfree h, Bool.true_or]
    have hexec : exec .loadDataTimeout s = .next (s.elapse n).timeOut.driven := by
      rw [exec, execLoadDataTimeout, answer_eq, hiface, hruns hrun, Bool.and_self, if_pos rfl,
        State.loadTimeout_undisturbed hn hquiet]
    obtain ⟨hcollecting, hreply⟩ := State.elapse_timeOut hfree n
    refine ⟨_, hexec, ⟨hcollecting, hreply, ?_⟩, State.elapse_tick hfree n⟩
    rw [s.elapse_config hfree hmode]
    exact ⟨rfl, rfl, rfl, rfl, rfl, rfl, rfl, rfl, rfl⟩

/-! ### Mode commands (R171, R180, R192, R195, R199, R200) -/

section

variable {s : State}

/-- STOP in RUN with TRIP not reported: HALTED with code STOP, each frame in transmission cut off. -/
theorem State.stop_halts (hfree : s.resetHeld = false) (hmode : s.ctl.mode = .run) :
    let t := (s.halt .stop none).replyOk
    t.ctl.mode = .halted ∧ t.statusOut = 12 ∧ t.outputs.tripLine = false ∧ t.outputs.protReady = false
      ∧ t.alarmOut = true
      ∧ t.sup.halt = some ⟨.stop, if s.clock.taken then some s.clock.index else none, .run, none⟩
      ∧ t.asm = s.asm ∧ t.roster = s.roster ∧ t.replica = s.replica ∧ t.diff = s.diff
      ∧ ∀ p, (t.link.paths.get p).sending = none ∧ (t.link.paths.get p).health = (s.link.paths.get p).health
          ∧ ((s.link.paths.get p).sending ≠ none → t.txErrorOut p = true) := by
  intro t
  obtain ⟨hhalted, -⟩ | ⟨-, hhalt, hrecord, -, hasm, hdiff, hroster, hreplica⟩ := s.halt_cases .stop none
  · simp [hmode] at hhalted
  rw [hmode] at hrecord
  have heq : s.halt .stop none = { s.leaveMode with
      sup := { s.leaveMode.sup with halt := (s.halt .stop none).sup.halt }
      ctl := { s.leaveMode.ctl with mode := .halted } } := by
    simp [State.halt, hmode]
  have hpins : t.pins = s.pins := by
    obtain ⟨-, -, hpins, -⟩ := s.leaveMode_fields
    change (s.halt .stop none).pins = s.pins
    rw [heq, ← hpins]
  have hlink : t.link = s.link.leaveRun := by
    change (s.halt .stop none).link = _
    rw [heq]
    simp [State.leaveMode, hmode]
  have hsending (p : Path) : (t.link.paths.get p).sending = none := by
    rw [hlink]
    cases p <;> rfl
  have hheld : t.resetHeld = false := by rw [State.resetHeld, hpins]; exact hfree
  have hnot : t.ctl.mode ≠ .run := by
    rw [show t.ctl.mode = .halted from hhalt]
    decide
  obtain ⟨htrip, hready⟩ := t.outputs_of_not_run hnot
  refine ⟨hhalt, (t.statusOut_of_free hheld).2.2.2.2 _ hhalt hrecord, htrip, hready, ?_, hrecord, hasm, hroster,
    hreplica,
    hdiff, fun p => ⟨hsending p, ?_, fun hp => ?_⟩⟩
  · rw [State.alarmOut_iff]
    exact ⟨(t.resetHeld_eq_false.1 hheld).1, by simp [show t.ctl.mode = .halted from hhalt]⟩
  · rw [hlink]
    cases p <;> rfl
  · rw [State.txErrorOut, hsending p]
    change ((s.halt .stop none).out.txError.get p && _) = true
    rw [heq]
    simp [s.leaveMode_txError p, hmode, Option.isSome_iff_ne_none.2 hp]

/-- The commands of the rows that COMMIT, TEST, ENDTEST, STOP and ACK are. -/
theorem State.interpret_refused {c : Command} {l : Line} (h :
    c = .commit ∨ c = .test ∨ c = .endtest ∨ c = .stop ∨ c = .ack)
    (hrow : lineRow l = commandRow c []) (hmode : s.ctl.mode ≠ .selftest) (htaken : c.taken s.ctl.mode = false) :
    s.interpret l = s.replyError .mode := by
  refine s.interpret_notTaken ?_ ?_ hrow hmode htaken
  · rcases h with rfl | rfl | rfl | rfl | rfl <;> decide
  · rcases h with rfl | rfl | rfl | rfl | rfl <;> decide

end

/-- Settles O52: the CR of a command's line carries it out in a mode that takes it, and is answered otherwise. -/
theorem modeCommands : Obligations.ModeCommands := by
  unfold Obligations.ModeCommands
  intro s cs hfree hiface hreply
  have hexec {r : LineRow} := exec_row_collecting (s := s) (cs := cs) (e := false) (r := r) hfree hiface
  have taken {c : Command} := s.clearLine.interpret_taken (l := s.lineEnded cs false) (c := c)
  refine ⟨fun hrow hmode => ?_, fun hrow hmode => ⟨fun hreported => ?_, fun hreported => ?_⟩,
    fun hrow hself hhalted => ?_,
    fun hrow hself => ?_, fun r hrow => ⟨fun hself hcases => ?_, fun hself hdropped hill hload => ?_⟩⟩
  · have h := hexec hrow (by decide)
    rw [taken (c := .endtest) (by decide) (by decide) hrow (by simp [hmode]) (by simp [hmode, Command.taken])] at h
    have hleave : s.clearLine.enterConfig = { s.clearLine with
        bay := s.bay.abandon
        clock := { s.clock with drift := .idle, stepDue := none }
        trip := s.trip.release
        ctl := { s.ctl with
          tripReported := false, mode := .config, step := none, loopPath := none, loopFrame := none } } := by
      simp [State.enterConfig, State.leaveMode, hmode]
    rw [State.carryOut, hleave] at h
    exact ⟨_, h, rfl, State.statusOut_config hfree rfl, rfl, rfl, rfl, rfl, rfl, by simp [State.replyOk, hreply]⟩
  · have h := hexec hrow (by decide)
    rw [taken (c := .stop) (by decide) (by decide) hrow (by simp [hmode]) (by simp [hmode, Command.taken])] at h
    have hdo : s.clearLine.carryOut .stop [] = (s.clearLine.halt .stop none).replyOk := by
      simp [State.carryOut, State.doStop, hreported]
    rw [hdo] at h
    obtain ⟨h1, h2, h3, h4, h5, h6, h7, h8, h9, h10, h11⟩ := State.stop_halts (s := s.clearLine) hfree hmode
    refine ⟨_, h, h1, h2, h3, h4, h5, h6, h7, h8, h9, h10, fun p => ?_, ?_⟩
    · obtain ⟨hsending, hhealth, herror⟩ := h11 p
      exact ⟨hsending, hhealth, fun hp => (State.outputs_txError _ p).trans (herror hp)⟩
    · simp [State.replyOk, State.halt, State.leaveMode, hmode, hreply]
  · have h := hexec hrow (by decide)
    rw [taken (c := .stop) (by decide) (by decide) hrow (by simp [hmode]) (by simp [hmode, Command.taken])] at h
    have hdo : s.clearLine.carryOut .stop [] = s.clearLine.replyError .busy := by
      simp [State.carryOut, State.doStop, hreported]
    rw [hdo] at h
    exact ⟨_, h, s.onlyService_svc _, by simp [State.replyError, hreply]⟩
  · have h := hexec hrow (by decide)
    have htaken : Command.taken .ack s.ctl.mode = true := by
      cases hm : s.ctl.mode <;> simp [Command.taken, hm] at hself hhalted ⊢
    rw [taken (c := .ack) (by decide) (by decide) hrow hself htaken] at h
    exact ⟨_, h, rfl, rfl, rfl, rfl, rfl, rfl, rfl, rfl, rfl, rfl, by simp [State.carryOut, State.replyOk,
      State.acknowledge, hreply]⟩
  · have h := hexec hrow (by decide)
    have htaken : Command.taken .warm s.ctl.mode = true := by
      cases hm : s.ctl.mode <;> simp [Command.taken, hm] at hself ⊢
    rw [taken (c := .warm) (by decide) (by decide) hrow hself htaken] at h
    exact ⟨_, h, s.onlyService_svc _, by simp [State.carryOut, State.doWarm, State.replyOk, hreply], rfl⟩
  · have refused {c : Command} (hc : c = .commit ∨ c = .test ∨ c = .endtest ∨ c = .stop ∨ c = .ack)
        (hr : r = commandRow c []) (htaken : c.taken s.ctl.mode = false) :
        ∃ t, exec (r.command cs false) s = .next t ∧ s.OnlyService t ∧ t.svc.iface = .replying
          ∧ t.svc.reply = [.error .mode] := by
      have hdropped : r ≠ .dropped := by
        rw [hr]
        rcases hc with rfl | rfl | rfl | rfl | rfl <;> decide
      have h := hexec hrow hdropped
      rw [State.interpret_refused (s := s.clearLine) hc (hrow.trans hr) hself htaken] at h
      exact ⟨_, h, s.onlyService_svc _, rfl, by simp [State.replyError, hreply]⟩
    rcases hcases with ⟨hr | hr, hm⟩ | ⟨hr, hm⟩ | ⟨hr, hm⟩ | ⟨hr, hm⟩
    · exact refused (c := .commit) (by simp) hr (by simp [Command.taken, hm])
    · exact refused (c := .test) (by simp) hr (by simp [Command.taken, hm])
    · exact refused (c := .endtest) (by simp) hr (by simp [Command.taken, hm])
    · exact refused (c := .stop) (by simp) hr (by simp [Command.taken, hm])
    · exact refused (c := .ack) (by simp) hr (by simp [Command.taken, hm])
  · have h := hexec hrow hdropped
    rw [s.clearLine.interpret_busy (by rwa [hrow]) (by rwa [hrow]) (by rwa [hrow]) hself] at h
    exact ⟨_, h, s.onlyService_svc _, rfl, by simp [State.replyError, hreply]⟩

/-! ### The end of a reply (R196, R200) -/

/-- The modes that take a command (R195). -/
def Command.TakenIn (c : Command) (m : Mode) : Prop :=
  match c with
  | .load => m = .config
  | .commit => m = .config
  | .test => m = .config
  | .endtest => m = .test
  | .stop => m = .run
  | .ack => m ≠ .halted
  | .warm => True
  | .examine => True

theorem Command.taken_iff (c : Command) {m : Mode} (h : m ≠ .selftest) : c.taken m = true ↔ c.TakenIn m := by
  cases c <;> cases m <;> simp [Command.taken, Command.TakenIn] at h ⊢

/-- Settles O54: the reply's end by what waits behind it; the interpretation row by row. -/
theorem replyEnd : Obligations.ReplyEnd := by
  unfold Obligations.ReplyEnd
  refine ⟨fun s => ⟨fun hfree hiface => ?_, fun hfree hiface => ?_, fun hheld => ?_⟩, fun s l w rest hw => ?_⟩
  · have hexec : exec .replyEnd s = .next s.endReply.driven := by
      rw [exec, execReplyEnd, answer_eq, if_neg (by simp [hfree]), if_pos hiface]
    have held {l : Line} (hwarm : s.svc.warmWaits = false) (hl : s.svc.held = some l) : s.endReply = State.interpret
        { s with svc := { s.svc with iface := .collecting, reply := [], held := none } } l := by
      simp [State.endReply, hwarm, hl]
    refine ⟨fun hwarm hnone => ?_, fun l hwarm hl => ?_, fun l w rest hwarm hl hw hlong => ?_, fun hwarm => ?_⟩
    · have hend : s.endReply = { s with svc := { s.svc with iface := .collecting, reply := [] } } := by
        rw [State.endReply, if_neg (by simp [hwarm])]
        simp [hnone]
      rw [hend] at hexec
      exact ⟨_, hexec, s.onlyService_svc _, rfl⟩
    · rw [hexec, held hwarm hl]
    · rw [held hwarm hl, State.interpret_long _ hw hlong] at hexec
      exact ⟨_, hexec, s.onlyService_svc _, rfl, rfl⟩
    · have hend : s.endReply = s.warmValues := by rw [State.endReply, if_pos hwarm]
      rw [hend] at hexec
      exact ⟨_, hexec, rfl, rfl, rfl, rfl, rfl, rfl,
        (s.warmValues.outputs_of_not_run (by decide : Mode.selftest ≠ .run)).1, rfl, rfl, rfl, rfl⟩
  · refine ⟨_, ?_, s.onlyService_svc { s.svc with reply := [] }, rfl⟩
    rw [exec, execReplyEnd, answer_eq, if_neg (by simp [hfree]), if_neg hiface]
  · refine ⟨s.driven, ?_, rfl⟩
    rw [exec, execReplyEnd, answer_eq, if_pos hheld]
  · dsimp only
    refine ⟨fun hlong => s.interpret_long hw hlong, fun hlong hframing => s.interpret_framing hw hlong hframing,
      fun hlong hframing => ?_⟩
    have hplain := s.interpret_plain hw hlong hframing
    refine ⟨fun hc => ?_, fun hc hmode => ?_, fun hc hmode => ?_, fun c hc hload hmode => ?_⟩
    · rw [hplain, if_pos hc]
      rfl
    · rw [hplain, if_neg hc, if_pos hmode]
      rfl
    · rw [hplain, if_neg (by simp [hc]), if_neg hmode, hc]
      rfl
    · have hcommand := s.interpret_command hw hlong hframing hc hload hmode
      have hrow : commandRow c rest = .illCmd ↔ c ≠ .examine ∧ rest ≠ [] := by
        cases c with
        | load => exact absurd rfl hload
        | examine =>
          cases rest with
          | nil => simp [commandRow, examineRow]
          | cons v vs =>
            simp only [commandRow, examineRow]
            split_ifs <;> simp
        | _ => simp [commandRow]
      have htaken := c.taken_iff hmode
      refine ⟨fun hexamine hrest => ?_, fun hplainRow hno => ?_, fun hplainRow hyes => ?_⟩
      · rw [hcommand, if_pos (hrow.2 ⟨hexamine, hrest⟩)]
        rfl
      · rw [hcommand, if_neg (fun h => by have := hrow.1 h; tauto), if_neg (fun h => hno (htaken.1 h))]
        rfl
      · rw [hcommand, if_neg (fun h => by have := hrow.1 h; tauto), if_pos (htaken.2 hyes)]

/-! ### The validation of the block (R188) -/

/-- A check that fails is the first when every check before it passes: checks `cs` that decide the properties `fs` at
the same ascending offsets. -/
theorem firstFailure_iff {cs : List (Nat × Bool)} {fs : List (Nat × Prop)}
    (h : List.Forall₂ (fun c f => c.1 = f.1 ∧ (c.2 = true ↔ f.2)) cs fs) (hasc : (fs.map Prod.fst).Pairwise (· < ·)) :
    ((cs.find? fun c => !c.2).map Prod.fst = none ↔ ∀ f ∈ fs, f.2)
      ∧ ∀ off, (cs.find? fun c => !c.2).map Prod.fst = some off
        ↔ (∃ f ∈ fs, f.1 = off ∧ ¬f.2) ∧ ∀ f ∈ fs, f.1 < off → f.2 := by
  induction h with
  | nil => simp
  | @cons c f cs fs hcf _ ih =>
    obtain ⟨hoff, hpass⟩ := hcf
    obtain ⟨habove, hasc⟩ := List.pairwise_cons.1 hasc
    have habove (g : Nat × Prop) (hg : g ∈ fs) : f.1 < g.1 := habove _ (List.mem_map_of_mem hg)
    obtain ⟨ihnone, ihsome⟩ := ih hasc
    cases hc : c.2
    · have hfail : ¬f.2 := fun hf => by simp [hpass.2 hf] at hc
      simp only [List.find?_cons, hc, Bool.not_false, Option.map_some, reduceCtorEq, Option.some_inj,
        List.forall_mem_cons,
        List.exists_mem_cons_iff, hoff, hfail, false_and, true_and, not_false_eq_true, and_true, not_lt, imp_false]
      refine fun off => ⟨?_, ?_⟩
      · rintro rfl
        exact ⟨.inl rfl, le_refl _, fun g hg hlt => absurd (habove g hg) (by omega)⟩
      · rintro ⟨hoff | ⟨g, hg, hoff, -⟩, hle, -⟩
        · exact hoff
        · have := habove g hg
          omega
    · have hf : f.2 := hpass.1 hc
      simp only [List.find?_cons, hc, Bool.not_true, List.forall_mem_cons, List.exists_mem_cons_iff, hf, true_and,
        not_true_eq_false, and_false, false_or, implies_true]
      exact ⟨ihnone, ihsome⟩

theorem within_iff (lo hi v : Nat) : within lo hi v = true ↔ lo ≤ v ∧ v ≤ hi := by simp [within]

/-- The own bay description passes the checks of R47 (10.4, offset 20). -/
theorem isSome_descOf_iff (kind x y : Nat) : (descOf kind x y).isSome = true ↔ x ≤ 4 ∧ y ≤ 4
    ∧ ((kind = 1 ∧ ¬(x = 0 ∧ y = 0)) ∨ (kind = 2 ∧ x ≠ 0 ∧ y ≠ 0 ∧ x ≠ y)) := by
  rw [isSome_descOf, Described]
  constructor
  · rintro ⟨rfl | rfl, hx, hy, h1, h2⟩
    · exact ⟨hx, hy, .inl ⟨rfl, h1 rfl⟩⟩
    · exact ⟨hx, hy, .inr ⟨rfl, h2 rfl⟩⟩
  · rintro ⟨hx, hy, ⟨rfl, h⟩ | ⟨rfl, h⟩⟩
    · exact ⟨.inl rfl, hx, hy, fun _ => h, fun he => absurd he (by decide)⟩
    · exact ⟨.inr rfl, hx, hy, fun he => absurd he (by decide), fun _ => h⟩

theorem bitOf_zero_iff (n : Nat) : bitOf n 0 = true ↔ n % 2 = 1 := by simp [bitOf]

/-- The own number is in the population mask (10.4, offset 4). -/
theorem ownInMask_iff (own : Option Station) (mask : Nat) :
    (match own with
      | some n => bitOf mask n.val
      | none => false) = true ↔ ∃ n, own = some n ∧ mask.testBit n.val = true := by
  cases own <;> simp [bitOf_eq_testBit]

/-- In TEST with no reset STATUS CODE is 10. -/
theorem State.statusOut_test {s : State} (h : s.resetHeld = false) (h1 : s.ctl.mode = .test) :
    s.outputs.statusCode = 10 :=
  (s.statusOut_of_free h).2.2.1 h1

theorem State.doCommit_invalid {s : State} {off : Nat} (h : s.invalidAt = some off) :
    s.doCommit = s.replyError (.field off) := by
  rw [State.doCommit, h]

theorem State.doTest_invalid {s : State} {off : Nat} (h : s.invalidAt = some off) :
    s.doTest = s.replyError (.field off) := by
  rw [State.doTest, h]

/-- Settles O51: the checks decide the fields of 10.4 one by one; COMMIT and TEST are answered with the first that
fails, or enter their mode. -/
theorem commitAndTest : Obligations.CommitAndTest := by
  unfold Obligations.CommitAndTest
  refine ⟨fun b own => firstFailure_iff ?_ ?_, fun s cs hfree hiface hreply hmode => ⟨fun hrow => ?_, fun hrow => ?_⟩⟩
  · have h22 := u16At_lt b 22
    have h24 := u16At_lt b 24
    have h26 := u16At_lt b 26
    rw [u16At] at h22 h24 h26
    simp only [schemeChecks, stationChecks, List.cons_append, List.nil_append, List.forall₂_cons,
      List.forall₂_nil_left_iff, true_and, and_true, within_iff, isSome_descOf_iff, u16At, signed16, blockCrcGood,
      blockCrc, Bool.or_eq_true, Bool.and_eq_true, beq_iff_eq, bitOf_zero_iff, zero_le]
    exact ⟨ownInMask_iff own _, by omega, by omega, by omega, decide_eq_true_iff, and_congr_right' decide_eq_true_iff,
      decide_eq_true_iff⟩
  · simp only [List.map]
    decide
  · have h := exec_row_collecting (e := false) hfree hiface hrow (by decide)
    rw [s.clearLine.interpret_taken (c := .commit) (by decide) (by decide) hrow (by simp [hmode])
      (by simp [hmode, Command.taken])] at h
    have refused {off : Nat} (hinvalid : s.invalidAt = some off) :
        ∃ t, exec (.commit cs) s = .next t ∧ s.OnlyService t ∧ t.svc.reply = [.error (.field off)] := by
      refine ⟨_, h, ?_⟩
      rw [State.carryOut, State.doCommit_invalid (s := s.clearLine) hinvalid]
      exact ⟨s.onlyService_svc _, by simp [State.replyError, hreply]⟩
    refine ⟨fun hempty => refused (by rw [State.invalidAt, if_pos hempty]), fun off hstore hbad =>
      refused (by rw [State.invalidAt, if_neg hstore, hbad]), fun hstore hgood => ?_⟩
    have hvalid : s.clearLine.invalidAt = none := (if_neg hstore).trans hgood
    have hcommit : s.clearLine.doCommit = (State.entryValues
        { s.clearLine with ctl := { s.ctl with store := .committed } } false).replyOk := by
      rw [State.doCommit, hvalid]
      simp only [State.enterRun]
      rw [State.leaveMode_of_idle (by simp [hmode]) (by simp [hmode])]
      rfl
    rw [State.carryOut, hcommit] at h
    exact ⟨_, h, rfl, rfl, rfl, rfl, rfl, rfl, rfl, rfl, rfl, rfl, rfl, rfl, rfl, State.statusOut_run hfree rfl,
      by simp [State.replyOk, State.entryValues, hreply],
      State.entryValues_startsAfresh (s := { s.clearLine with ctl := { s.ctl with store := .committed } }) false,
      State.entryValues_pathsEnterRun (s := { s.clearLine with ctl := { s.ctl with store := .committed } })⟩
  · have h := exec_row_collecting (e := false) hfree hiface hrow (by decide)
    rw [s.clearLine.interpret_taken (c := .test) (by decide) (by decide) hrow (by simp [hmode])
      (by simp [hmode, Command.taken])] at h
    have refused {off : Nat} (hinvalid : s.invalidAt = some off) :
        ∃ t, exec (.test cs) s = .next t ∧ s.OnlyService t ∧ t.svc.reply = [.error (.field off)] := by
      refine ⟨_, h, ?_⟩
      rw [State.carryOut, State.doTest_invalid (s := s.clearLine) hinvalid]
      exact ⟨s.onlyService_svc _, by simp [State.replyError, hreply]⟩
    refine ⟨fun hempty => refused (by rw [State.invalidAt, if_pos hempty]), fun off hstore hbad =>
      refused (by rw [State.invalidAt, if_neg hstore, hbad]), fun hstore hgood => ?_⟩
    have hvalid : s.clearLine.invalidAt = none := (if_neg hstore).trans hgood
    have htest : s.clearLine.doTest = (s.clearLine.entryValues true).replyOk := by
      rw [State.doTest, hvalid]
      simp only [State.enterTest]
      rw [State.leaveMode_of_idle (by simp [hmode]) (by simp [hmode])]
    rw [State.carryOut, htest] at h
    exact ⟨_, h, rfl, rfl, rfl, rfl, rfl, rfl, rfl, rfl, State.statusOut_test hfree rfl,
      by simp [State.replyOk, State.entryValues, hreply], State.entryValues_startsAfresh (s := s.clearLine) true, rfl⟩

/-! ### EXAMINE (R201) -/

/-- The zone of a number. -/
theorem zoneOf_num_iff : ∀ (n : Nat) (g : Zone), zoneOf n = some g ↔ g.val + 1 = n
  | 0 | 1 | 2 | 3 | 4 => by decide
  | n + 5 => fun g => iff_of_false (fun h => nomatch h) (by omega)

/-- One more digit of a decimal number. -/
def digitStep (acc : Option Nat) (b : Byte) : Option Nat :=
  match acc with
  | none => none
  | some n => if 0x30#8 ≤ b ∧ b ≤ 0x39#8 then some (10 * n + (b.toNat - 48)) else none

/-- The digits of a word read as a decimal number, the first one the most significant. -/
theorem foldl_digitStep (i : List Byte) : i.foldl digitStep (some 0) = if ∀ b ∈ i, 0x30#8 ≤ b ∧ b ≤ 0x39#8
    then some (Nat.ofDigits 10 (i.reverse.map fun b => b.toNat - 48)) else none := by
  induction i using List.reverseRecOn with
  | nil => simp
  | append_singleton i b ih =>
    rw [List.foldl_append, ih]
    simp only [List.foldl_cons, List.foldl_nil, List.forall_mem_append, List.forall_mem_singleton]
    by_cases hi : ∀ b ∈ i, 0x30#8 ≤ b ∧ b ≤ 0x39#8
    · by_cases hb : 0x30#8 ≤ b ∧ b ≤ 0x39#8
      · rw [if_pos hi, if_pos ⟨hi, hb⟩, digitStep, if_pos hb, List.reverse_append]
        simp only [List.reverse_singleton, List.singleton_append, List.map_cons, Nat.ofDigits_cons]
        rw [Nat.add_comm]
      · rw [if_pos hi, if_neg (fun h => hb h.2), digitStep, if_neg hb]
    · rw [if_neg hi, if_neg (fun h => hi h.1), digitStep]

/-- A word of digits has their decimal value; any other has none. -/
theorem decimalOf_eq (i : List Byte) : decimalOf i = if i ≠ [] ∧ ∀ b ∈ i, 0x30#8 ≤ b ∧ b ≤ 0x39#8
    then some (Nat.ofDigits 10 (i.reverse.map fun b => b.toNat - 48)) else none := by
  unfold decimalOf
  cases i with
  | nil => simp
  | cons b bs =>
    rw [if_neg (by simp)]
    refine (foldl_digitStep (b :: bs)).trans (if_congr ?_ rfl rfl)
    simp

section

variable (cursor : Option Rec)

/-- The names of R201 and the record of each at its first index. -/
def recordNames : List (List Byte × Rec) :=
  [([0x4D#8, 0x4F#8, 0x44#8, 0x45#8], .mode), ([0x53#8, 0x59#8, 0x4E#8, 0x43#8], .sync),
   ([0x50#8, 0x41#8, 0x54#8, 0x48#8], .path .a), ([0x52#8, 0x4F#8, 0x53#8, 0x54#8, 0x45#8, 0x52#8], .roster 0),
   ([0x47#8, 0x52#8, 0x4F#8, 0x55#8, 0x50#8], .group 0), ([0x43#8, 0x48#8, 0x45#8, 0x43#8, 0x4B#8], .check),
   ([0x54#8, 0x52#8, 0x49#8, 0x50#8], .trip), ([0x46#8, 0x41#8, 0x55#8, 0x4C#8, 0x54#8], .fault),
   ([0x48#8, 0x41#8, 0x4C#8, 0x54#8], .halt), ([0x43#8, 0x4F#8, 0x4E#8, 0x46#8, 0x49#8, 0x47#8], .config),
   ([0x43#8, 0x4F#8, 0x55#8, 0x4E#8, 0x54#8, 0x53#8], .counts)]

/-- A name of the table names its record. -/
theorem recordOfName_of_mem : ∀ e ∈ recordNames, recordOfName e.1 = some e.2 ∧ e.1 ≠ [0x2B#8] ∧ e.1 ≠ [0x2A#8] := by
  decide

/-- A word that is no name of the table names no record. -/
theorem recordOfName_eq_none {w : List Byte} (h : ∀ e ∈ recordNames, e.1 ≠ w) : recordOfName w = none := by
  simp only [recordNames, List.forall_mem_cons] at h
  simp [recordOfName, eq_comm (a := w), h]

/-- One or two words of which the first is no cursor form ask for a named record. -/
theorem ask_name {w : List Byte} {rest : List (List Byte)} (h : (w :: rest).length ≤ 2) (hplus : w ≠ [0x2B#8])
    (hstar : w ≠ [0x2A#8]) : ask cursor (w :: rest) = askName w rest := by
  rw [ask, if_neg (not_lt.2 h)]
  simp only [hplus, hstar, if_false]

/-- A name of the table with an index asks for its record at that index. -/
theorem ask_index {e : List Byte × Rec} (h : e ∈ recordNames) (i : List Byte) :
    ask cursor [e.1, i] = Asked.ofIndex (e.2.atIndex i) := by
  obtain ⟨hname, hplus, hstar⟩ := recordOfName_of_mem e h
  rw [ask_name cursor (by simp) hplus hstar, askName, hname]

/-- A cursor form, `+` or `*`, with or without a further word. -/
theorem ask_cursor {rest : List (List Byte)} (h : rest.length ≤ 1) :
    ask cursor ([0x2B#8] :: rest) = askCursor cursor true rest
      ∧ ask cursor ([0x2A#8] :: rest) = askCursor cursor false rest := by
  have hlength (w : List Byte) : ¬2 < (w :: rest).length := by
    rw [List.length_cons]
    omega
  constructor
  · rw [ask, if_neg (hlength _)]
    rfl
  · rw [ask, if_neg (hlength _)]
    rfl

/-- The records that have an index, and what each index gives (R201). -/
theorem Rec.atIndex_cases (r : Rec) (i : List Byte) :
    (∀ p, r = .path p → Asked.ofIndex (r.atIndex i)
      = if i = [0x41#8] then .record (.path .a) else if i = [0x42#8] then .record (.path .b) else .error .illIdx)
    ∧ (∀ m, r = .roster m →
        (∀ n : Station, decimalOf i = some (n.val + 1) → Asked.ofIndex (r.atIndex i) = .record (.roster n))
        ∧ ((∀ n : Station, decimalOf i ≠ some (n.val + 1)) → Asked.ofIndex (r.atIndex i) = .error .illIdx))
    ∧ (∀ m, r = .group m →
        (∀ g : Zone, decimalOf i = some (g.val + 1) → Asked.ofIndex (r.atIndex i) = .record (.group g))
        ∧ ((∀ g : Zone, decimalOf i ≠ some (g.val + 1)) → Asked.ofIndex (r.atIndex i) = .error .illIdx))
    ∧ ((∀ p, r ≠ .path p) → (∀ m, r ≠ .roster m) → (∀ m, r ≠ .group m) →
        Asked.ofIndex (r.atIndex i) = .error .illIdx) := by
  refine ⟨?_, ?_, ?_, fun hpath hroster hgroup => ?_⟩
  · rintro p rfl
    rw [Rec.atIndex, pathWord]
    split_ifs <;> rfl
  · rintro m rfl
    refine ⟨fun n hn => ?_, fun hno => ?_⟩
    · rw [Rec.atIndex, hn, Option.bind_some, (stationOf_eq_some_iff _ n).2 rfl]
      rfl
    · have hnone : (decimalOf i).bind stationOf = none := by
        rw [Option.bind_eq_none_iff]
        intro k hk
        by_contra hc
        obtain ⟨n, hn⟩ := Option.ne_none_iff_exists'.1 hc
        exact hno n (by rw [hk, (stationOf_eq_some_iff _ n).1 hn])
      rw [Rec.atIndex, hnone]
      rfl
  · rintro m rfl
    refine ⟨fun g hg => ?_, fun hno => ?_⟩
    · rw [Rec.atIndex, hg, Option.bind_some, (zoneOf_num_iff _ g).2 rfl]
      rfl
    · have hnone : (decimalOf i).bind zoneOf = none := by
        rw [Option.bind_eq_none_iff]
        intro k hk
        by_contra hc
        obtain ⟨g, hg⟩ := Option.ne_none_iff_exists'.1 hc
        exact hno g (by rw [hk, (zoneOf_num_iff _ g).1 hg])
      rw [Rec.atIndex, hnone]
      rfl
  · cases r with
    | path p => exact absurd rfl (hpath p)
    | roster m => exact absurd rfl (hroster m)
    | group m => exact absurd rfl (hgroup m)
    | _ => rfl

/-- The record at the next index, or ?08 ILL IDX. -/
theorem Rec.next_cases (r : Rec) : Asked.ofIndex r.next = match r with
    | .path .a => .record (.path .b)
    | .roster n => if h : n.val + 1 < 24 then .record (.roster ⟨n.val + 1, h⟩) else .error .illIdx
    | .group g => if h : g.val + 1 < 4 then .record (.group ⟨g.val + 1, h⟩) else .error .illIdx
    | _ => .error .illIdx := by
  cases r with
  | path p => cases p <;> rfl
  | roster n =>
    dsimp only [Rec.next]
    split_ifs with h
    · rw [(stationOf_eq_some_iff _ ⟨n.val + 1, h⟩).2 rfl]
      rfl
    · rw [stationOf, dif_neg (by omega)]
      rfl
  | group g =>
    dsimp only [Rec.next]
    split_ifs with h
    · rw [(zoneOf_num_iff _ ⟨g.val + 1, h⟩).2 rfl]
      rfl
    · have hg : g.val = 3 := by omega
      rw [hg]
      rfl
  | _ => rfl

end

section

variable {s : State}

/-- The line of an EXAMINE row outside SELFTEST. -/
theorem State.interpret_examineRow {l : Line} {w : List Byte} {rest : List (List Byte)} (hw : wordsOf l.buf = w :: rest)
    (h : lineRow l = .examine ∨ lineRow l = .examineNext ∨ lineRow l = .examineAgain) (hmode : s.ctl.mode ≠ .selftest) :
    s.interpret l = s.doExamine rest ∧ examineRow rest = lineRow l := by
  obtain ⟨w', rest', c, hw', hlong, hframing, hc, hload, hrow⟩ :=
    command_of_otherRow (l := l) (by rcases h with h | h | h <;> simp [h]) (by rcases h with h | h | h <;> simp [h])
      (by rcases h with h | h | h <;> simp [h])
  rw [hw] at hw'
  obtain ⟨rfl, rfl⟩ := List.cons_eq_cons.1 hw'
  have hexamine : c = .examine := by
    cases c with
    | load => exact absurd rfl hload
    | examine => rfl
    | _ =>
      rw [← hrow] at h
      simp only [commandRow] at h
      split_ifs at h <;> simp at h
  subst hexamine
  have hnot : commandRow .examine rest ≠ .illCmd := by
    rw [hrow]
    rcases h with h | h | h <;> simp [h]
  have htaken : Command.taken .examine s.ctl.mode = true := (Command.taken_iff _ hmode).2 trivial
  rw [s.interpret_command hw hlong hframing hc hload hmode, if_neg hnot, if_pos htaken]
  exact ⟨rfl, hrow⟩

/-- The lines of a record do not depend on the Service Line Interface. -/
theorem State.recordLines_clearLine (r : Rec) : s.clearLine.recordLines r = s.recordLines r := by
  cases r <;> rfl

/-- The CR of an EXAMINE line: the record's copy with the cursor on it, or the error. -/
theorem exec_examine {l : Line} {rest : List (List Byte)} {c : Instr} (hreply : s.svc.reply = [])
    (hexec : exec c s = .next (s.clearLine.interpret l).driven) (hdo :
      s.clearLine.interpret l = s.clearLine.doExamine rest) :
    (∀ r, ask s.svc.cursor rest = .record r → ∃ t, exec c s = .next t ∧ s.OnlyService t
        ∧ t.svc.cursor = some r ∧ t.svc.reply = .name r :: (s.recordLines r ++ [.ok]))
      ∧ (∀ e, ask s.svc.cursor rest = .error e → ∃ t, exec c s = .next t ∧ s.OnlyService t
        ∧ t.svc.cursor = s.svc.cursor ∧ t.svc.reply = [.error e]) := by
  rw [hdo] at hexec
  refine ⟨fun r hr => ?_, fun e he => ?_⟩
  · have hask : ask s.clearLine.svc.cursor rest = .record r := hr
    rw [State.doExamine, hask] at hexec
    refine ⟨_, hexec, s.onlyService_svc _, rfl, ?_⟩
    simp [hreply, State.showRecord, State.recordLines_clearLine]
  · have hask : ask s.clearLine.svc.cursor rest = .error e := he
    rw [State.doExamine, hask] at hexec
    exact ⟨_, hexec, s.onlyService_svc _, rfl, by simp [State.replyError, hreply]⟩

end

/-- Settles O53: the words after the name by their form; the line by what they ask for. -/
theorem examine : Obligations.Examine := by
  unfold Obligations.Examine
  refine ⟨fun cursor words => ?_, decimalOf_eq, fun s cs w rest hfree hiface hreply hmode hw c hc => ?_⟩
  · dsimp only
    change _ ∧ _ ∧ (∀ w rest, _ → _ → _ → _ → (∀ e ∈ recordNames, _) → _) ∧ (∀ e ∈ recordNames, _)
      ∧ (∀ e ∈ recordNames, _) ∧ _
    refine ⟨fun hlong => if_pos hlong, rfl, ?_, fun e he => ?_, fun e he i => ?_, ?_, ?_⟩
    · rintro w rest rfl hshort hplus hstar hnone
      rw [ask_name cursor hshort hplus hstar, askName, recordOfName_eq_none hnone]
    · obtain ⟨hname, hplus, hstar⟩ := recordOfName_of_mem e he
      rw [ask_name cursor (by simp) hplus hstar, askName, hname]
    · rw [ask_index cursor he i]
      exact e.2.atIndex_cases i
    · rintro rfl w rest rfl hshort hform
      have hrest : rest.length ≤ 1 := by
        rw [List.length_cons] at hshort
        omega
      rcases hform with rfl | rfl
      · rw [(ask_cursor none hrest).1]
        rfl
      · rw [(ask_cursor none hrest).2]
        rfl
    · rintro r rfl
      refine ⟨?_, (ask_cursor (some r) (by simp)).2, (ask_cursor (some r) (by simp)).1.trans r.next_cases⟩
      rintro w i (rfl | rfl)
      · exact (ask_cursor (some r) (by simp)).1
      · exact (ask_cursor (some r) (by simp)).2
  · have hrow : lineRow (s.lineEnded cs false) = .examine ∨ lineRow (s.lineEnded cs false) = .examineNext
        ∨ lineRow (s.lineEnded cs false) = .examineAgain := by
      rcases hc with ⟨-, h⟩ | ⟨-, h⟩ | ⟨-, h⟩ <;> simp [h]
    obtain ⟨hdo, hexamineRow⟩ := State.interpret_examineRow (s := s.clearLine) hw hrow hmode
    have hexec : exec c s = .next (s.clearLine.interpret (s.lineEnded cs false)).driven := by
      rcases hc with ⟨rfl, h⟩ | ⟨rfl, h⟩ | ⟨rfl, h⟩
      · exact exec_row_collecting (e := false) hfree hiface h (by decide)
      · exact exec_row_collecting (e := false) hfree hiface h (by decide)
      · exact exec_row_collecting (e := false) hfree hiface h (by decide)
    obtain ⟨hrecord, herror⟩ := exec_examine hreply hexec hdo
    refine ⟨hrecord, herror, fun hagain hone r hr => ?_, fun hnext hnone hshort => ?_⟩
    · have hstar : examineRow rest = .examineAgain := by
        rcases hc with ⟨rfl, -⟩ | ⟨rfl, -⟩ | ⟨-, h⟩
        · simp at hagain
        · simp at hagain
        · rw [hexamineRow, h]
      obtain ⟨v, rfl⟩ := List.length_eq_one_iff.1 hone
      have hv : v = [0x2A#8] := by
        simp only [examineRow] at hstar
        split_ifs at hstar with h1 h2
        exact h2
      rw [hv, hr, (ask_cursor (some r) (by simp)).2]
      rfl
    · have hplus : examineRow rest = .examineNext := by
        rcases hc with ⟨rfl, -⟩ | ⟨-, h⟩ | ⟨rfl, -⟩
        · simp at hnext
        · rw [hexamineRow, h]
        · simp at hnext
      rw [hnone]
      cases rest with
      | nil => rfl
      | cons v vs =>
        have hv : v = [0x2B#8] := by
          simp only [examineRow] at hplus
          split_ifs at hplus with h1
          exact h1
        rw [List.length_cons] at hshort
        rw [hv, (ask_cursor none (by omega)).1]
        rfl

end Sys2Proof.Machine
end

section
/-! PROOFS. The zone link: path events, the frames that are built and sent, and frames that are accepted. -/

namespace Sys2Proof.Machine

/-! ### Link-up lines and the end of a transmission (R42, R44, R52) -/

section

variable {s : State} {p : Path}

/-- A change of an enabled path's line is taken outside a reset and HALTED. -/
theorem State.followsLine_of (h : s.resetHeld = false) (h1 : s.ctl.mode ≠ .halted) (h2 : s.enabled p = true) :
    s.followsLine p = true := by
  simp [State.followsLine, h, h1, h2]

theorem exec_linkUpFall (h : s.followsLine p = true) (h1 : s.pins.lup.get p = true) : exec (.linkUpFall p) s
    = .next ({ s.setLup p false with
        link := s.link.onPath p PathCtl.goDown
        out := s.cutErrors ((PerPath.const false).set p true) } : State).driven := by
  rw [exec, execLinkUpFall, if_pos h1, answer_eq]
  simp only [h, if_true]
  rfl

theorem exec_linkUpRise (h : s.followsLine p = true) (h1 : s.pins.lup.get p = false) : exec (.linkUpRise p) s
    = .next ({ s.setLup p true with
        link := { s.link.onPath p PathCtl.comeUp with
          queryPending := s.link.queryPending || s.ctl.mode == .run } } : State).driven := by
  rw [exec, execLinkUpRise, if_neg (by simp [h1]), answer_eq]
  simp only [h, if_true]
  rfl

/-- An enabled path that is DOWN raises PATH. -/
theorem State.pathAlarm_of_down (h : s.enabled p = true) (h1 : (s.link.paths.get p).state = .down) :
    s.pathAlarm = true := by
  rw [State.pathAlarm_iff]
  cases p with
  | a => exact .inl h1
  | b => exact .inr (.inr ⟨h, .inl h1⟩)

theorem exec_transmitEnd (h : s.inRun = true) : exec (.transmitEnd p) s
      = .next (s.onPath p fun q => if q.sending.isSome then PathCtl.begin { q with sending :=
        none } else q).driven := by
  rw [exec, execTransmitEnd, if_pos h, answer_eq]
  rfl

end

/-- Settles O26: the path's record after the event, and the transmit errors that its transmission leaves. -/
theorem pathEvents : Obligations.PathEvents := by
  unfold Obligations.PathEvents
  refine fun s p => ⟨fun hfree hhalted henabled hhigh => ?_, fun hfree hhalted henabled hlow => ?_,
    fun x hrun hsending => ?_⟩
  · have hexec := exec_linkUpFall (State.followsLine_of hfree hhalted henabled) hhigh
    have hdown : ((s.link.onPath p PathCtl.goDown).paths.get p) = (s.link.paths.get p).goDown := by simp
    have hother : ((s.link.onPath p PathCtl.goDown).paths.get p.other) = s.link.paths.get p.other := by simp
    refine ⟨_, hexec, hdown, hother, rfl, rfl, rfl, State.pathAlarm_of_down (p := p) henabled ?_, rfl, rfl, rfl, rfl,
      ⟨rfl, rfl, rfl, rfl, rfl, rfl⟩, rfl, fun hsends => ?_, fun hidle => ?_, ?_⟩
    · change ((s.link.onPath p PathCtl.goDown).paths.get p).state = .down
      rw [hdown]
      rfl
    · rw [State.driven_out, State.outputs_txError, State.txErrorOut, (s.cutErrors_eq _).2]
      simp [PathCtl.goDown, PathCtl.cut, Option.isSome_iff_ne_none.2 hsends]
    · rw [State.driven_out, State.outputs_txError, State.txErrorOut, (s.cutErrors_eq _).2]
      simp [PathCtl.goDown, PathCtl.cut, hidle]
    · rw [State.driven_out, State.outputs_txError, State.txErrorOut, (s.cutErrors_eq _).2]
      simp
  · have hexec := exec_linkUpRise (State.followsLine_of hfree hhalted henabled) hlow
    refine ⟨_, hexec, ?_, ?_, ?_, rfl, rfl, rfl, rfl, rfl, ⟨rfl, rfl, rfl, rfl, rfl, rfl⟩, rfl⟩
    · exact (Link.get_onPath s.link p p PathCtl.comeUp).trans (if_pos rfl)
    · exact (Link.get_onPath s.link p p.other PathCtl.comeUp).trans (if_neg (Path.other_ne p))
    · simp
  · have hexec := exec_transmitEnd (p := p) hrun
    refine ⟨_, hexec, s.onlyLink_onPath p _, by simp, fun q hq => ?_, fun f hf => ?_, fun f hnone hf => ?_,
      fun hnone hnone' => ?_⟩
    · rw [State.driven_out, State.outputs_txError, State.txErrorOut]
      simp [hq]
    · simp [hsending, PathCtl.begin, hf]
    · simp [hsending, PathCtl.begin, hf, hnone]
    · simp [hsending, PathCtl.begin, hnone, hnone']

end Sys2Proof.Machine
end

section
/-! PROOFS. The sample clock: second marks and the drift, PPS and the index authority, the acquisition step. -/

namespace Sys2Proof.Machine

/-! ### The drift measurement (R33) -/

theorem driftAccepted_iff (count m : Nat) :
    driftAccepted count m = true ↔ ((count : Int) - m * 24000000).natAbs ≤ m * 4800 := by
  simp only [driftAccepted, Config.ppsInterval, Bool.and_eq_true, decide_eq_true_eq]
  omega

/-- An accepted count gives a quotient within 512 of the nominal period, nearest to it with halves up. -/
theorem driftQuotient_bounds {count m : Nat} (hm : 1 ≤ m)
    (h : ((count : Int) - m * 24000000).natAbs ≤ m * 4800) :
    2559488 ≤ driftQuotient count m ∧ driftQuotient count m ≤ 2560512
      ∧ 150 * m * driftQuotient count m ≤ 16 * count + 75 * m
      ∧ 16 * count + 75 * m < 150 * m * driftQuotient count m + 150 * m := by
  have hd : 0 < 2 * (m * 75) := by omega
  have hmod := Nat.mod_lt (2 * (count * 8) + m * 75) hd
  have hdiv := Nat.div_add_mod (2 * (count * 8) + m * 75) (2 * (m * 75))
  have hlow : 2559488 ≤ driftQuotient count m := by
    rw [driftQuotient, Nat.le_div_iff_mul_le hd]
    omega
  have hhigh : driftQuotient count m < 2560513 := by
    rw [driftQuotient, Nat.div_lt_iff_lt_mul hd]
    omega
  rw [← driftQuotient, show 2 * (m * 75) * driftQuotient count m = 150 * m * driftQuotient count m by ring] at hdiv
  exact ⟨hlow, by omega, by omega, by omega⟩

/-- To publish a count sets the last count, the trim and the rejected counts alone. -/
theorem Clock.publish_cases (c : Clock) (count m : Nat) : ∃ trim rejects,
    c.publish count m = { c with lastDrift := some count, trim := trim, driftRejects := rejects }
      ∧ (driftAccepted count m = true →
          trim = clampTo 512 ((driftQuotient count m : Int) - 2560000) ∧ rejects = c.driftRejects)
      ∧ (driftAccepted count m = false → trim = c.trim ∧ rejects = satInc 65535 c.driftRejects) := by
  unfold Clock.publish
  cases driftAccepted count m
  · exact ⟨_, _, rfl, by simp, fun _ => ⟨rfl, rfl⟩⟩
  · exact ⟨_, _, rfl, fun _ => ⟨rfl, rfl⟩, by simp⟩

theorem SyncState.drifts_iff (x : SyncState) :
    x.drifts = true ↔ x = .acquiring ∨ x = .lockedPps ∨ x = .lockedPeer := by
  cases x <;> simp [SyncState.drifts]

/-- A mark of the measurement (R33). -/
theorem Clock.driftMark_cases (c : Clock) (m : Nat) (t : Tick) :
    (c.sync.drifts = false → c.driftMark m t = c)
      ∧ (c.sync.drifts = true → c.drift = .idle → c.driftMark m t = { c with drift := .counting t 0 })
      ∧ ∀ start n, c.sync.drifts = true → c.drift = .counting start n →
          (n + 1 < m → c.driftMark m t = { c with drift := .counting start (n + 1) })
          ∧ (m ≤ n + 1 → c.driftMark m t = { c.publish (t - start).toNat m with drift := .counting t 0 }) := by
  refine ⟨fun h => ?_, fun h hidle => ?_, fun start n h hcount => ⟨fun hmore => ?_, fun hlast => ?_⟩⟩
  · simp [Clock.driftMark, h]
  · simp [Clock.driftMark, h, hidle]
  · simp [Clock.driftMark, h, hcount, not_le.2 hmore]
  · simp only [Clock.driftMark, h, hcount, hlast, Bool.not_true, Bool.false_eq_true, if_false, if_true]

/-- A mark changes the drift measurement and what it publishes alone. -/
theorem Clock.driftMark_eq (c : Clock) (m : Nat) (t : Tick) : ∃ drift trim lastDrift rejects,
    c.driftMark m t
      = { c with drift := drift, trim := trim, lastDrift := lastDrift, driftRejects := rejects } := by
  obtain ⟨hidle, hstart, hcounting⟩ := c.driftMark_cases m t
  cases hruns : c.sync.drifts with
  | false => exact ⟨_, _, _, _, hidle hruns⟩
  | true =>
    cases hdrift : c.drift with
    | idle => exact ⟨_, _, _, _, hstart hruns hdrift⟩
    | counting start n =>
      obtain ⟨hmore, hlast⟩ := hcounting start n hruns hdrift
      rcases Nat.lt_or_ge (n + 1) m with h | h
      · exact ⟨_, _, _, _, hmore h⟩
      · obtain ⟨trim, rejects, hpublish, -⟩ := c.publish_cases (t - start).toNat m
        rw [hpublish] at hlast
        exact ⟨_, _, _, _, hlast h⟩

theorem Clock.markGap_iff (c : Clock) (index : Option Nat) : c.markGap index = true ↔
    ∃ tick last k, c.lastMark = some ⟨tick, some last⟩ ∧ index = some k ∧ k ≠ (last + 2400) % 48000 := by
  unfold Clock.markGap
  constructor
  · split
    next tick last k hmark =>
      intro h
      exact ⟨tick, last, k, hmark, rfl, bne_iff_ne.1 h⟩
    next => simp
  · rintro ⟨tick, last, k, hmark, rfl, hne⟩
    rw [hmark]
    exact bne_iff_ne.2 hne

/-- A second mark discards the measurement at a gap, is counted, and is kept with its tick and index (R22). -/
theorem Clock.secondMark_def (c : Clock) (m : Nat) (index : Option Nat) : c.secondMark m index
    = { ({ c with drift := if c.markGap index then .idle else c.drift } : Clock).driftMark m c.tick with
        lastMark := some ⟨c.tick, index⟩, sinceMark := 0 } := by
  unfold Clock.secondMark
  cases c.markGap index <;> rfl

/-- A second mark changes the drift measurement, what it publishes, and the last mark alone. -/
theorem Clock.secondMark_eq (c : Clock) (m : Nat) (index : Option Nat) : ∃ drift trim lastDrift rejects,
    c.secondMark m index = { c with
      drift := drift, trim := trim, lastDrift := lastDrift, driftRejects := rejects
      lastMark := some ⟨c.tick, index⟩, sinceMark := 0 } := by
  obtain ⟨drift, trim, lastDrift, rejects, h⟩ := Clock.driftMark_eq
    { c with drift := if c.markGap index then .idle else c.drift } m c.tick
  rw [c.secondMark_def, h]
  exact ⟨_, _, _, _, rfl⟩

/-- Settles O21: the quotient's bounds, and the measurement by its state and the mark's place in it. -/
theorem driftTrim : Obligations.DriftTrim := by
  unfold Obligations.DriftTrim
  refine ⟨fun c count m hm => ?_, fun c m t => ?_, fun c m index => ⟨c.markGap_iff index, c.secondMark_def m index, ?_⟩⟩
  · obtain ⟨trim, rejects, hpublish, haccept, hreject⟩ := c.publish_cases count m
    rw [hpublish]
    dsimp only
    refine ⟨fun h => ?_, fun h => ?_, rfl⟩
    · obtain ⟨htrim, hrejects⟩ := haccept ((driftAccepted_iff _ _).2 h)
      obtain ⟨hlow, hhigh, hle, hlt⟩ := driftQuotient_bounds hm h
      have hquotient : trim + 2560000 = driftQuotient count m := by
        rw [htrim, clampTo]
        omega
      rw [hquotient]
      have hle' : (150 * m * driftQuotient count m : Int) ≤ 16 * count + 75 * m := by exact_mod_cast hle
      have hlt' : (16 * count + 75 * m : Int) < 150 * m * driftQuotient count m + 150 * m := by exact_mod_cast hlt
      exact ⟨by linarith, by linarith, by omega, by omega, hrejects⟩
    · exact hreject (by rw [Bool.eq_false_iff, ne_eq, driftAccepted_iff]; omega)
  · dsimp only
    rw [← SyncState.drifts_iff, Bool.not_eq_true]
    exact c.driftMark_cases m t
  · intro hgap hruns
    have hidle : c.markGap index = true := (c.markGap_iff index).2 hgap
    have hmark : ({ c with drift := .idle } : Clock).driftMark m c.tick = { c with drift := .counting c.tick 0 } :=
      (Clock.driftMark_cases _ m c.tick).2.1 ((SyncState.drifts_iff _).2 hruns) rfl
    rw [c.secondMark_def, hidle, if_pos rfl, hmark]
    exact ⟨rfl, rfl, rfl⟩

/-! ### Missed edges and marks (R20, R22) -/

/-- PPS is disqualified: the run and the measurement are at their start, and LOCKED-PPS and ACQUIRING are left. -/
theorem Clock.disqualify_fields (c : Clock) :
    c.disqualify.qualified = false ∧ c.disqualify.validRun = 0 ∧ c.disqualify.drift = .idle
      ∧ c.disqualify.lastEdge = c.lastEdge ∧ c.disqualify.sinceEdge = c.sinceEdge
      ∧ c.disqualify.tick = c.tick ∧ c.disqualify.index = c.index
      ∧ (c.sync = .lockedPps → c.disqualify.sync = .holdover ∧ c.disqualify.slew = 0
          ∧ c.disqualify.holdoverElapsed = 0)
      ∧ (c.sync = .acquiring → c.disqualify.sync = .unlocked ∧ c.disqualify.slew = 0)
      ∧ (c.sync ≠ .lockedPps → c.sync ≠ .acquiring →
          c.disqualify.sync = c.sync ∧ c.disqualify.slew = c.slew) := by
  unfold Clock.disqualify Clock.missMark
  dsimp only
  cases hsync : c.sync <;>
    simp [Clock.enter, Clock.entrySets, SyncState.drifts, SyncState.acceptable, Clock.clearSlew,
      Clock.clearBatch]

section

variable {s : State}

/-- A clock's timers in RUN stand at their event when the ticks to it have passed. -/
theorem State.elapse_run (h : s.inRun = true) (n : Nat) :
    (s.elapse n).inRun = true ∧ (s.elapse n).syncPps = s.syncPps ∧ (s.elapse n).ctl = s.ctl
      ∧ (s.elapse n).clock
        = ({ s.clock with tick := s.clock.tick + BitVec.ofNat 32 n } : Clock).elapseTimers n := by
  rw [s.elapse_working (s.working_of_inRun h)]
  exact ⟨h, rfl, rfl, rfl⟩

/-- PPS_TIMEOUT whose ticks pass undisturbed. -/
theorem exec_ppsTimeout {n : Nat} (hrun : s.inRun = true) (hpps : s.syncPps = true)
    (hedge : s.clock.lastEdge.isSome = true) (hn : Config.markLimit - s.clock.sinceEdge = n) (hquiet :
      s.Undisturbed n) :
    exec .ppsTimeout s = .next ({ s.elapse n with clock := (s.elapse n).clock.ppsSilent } : State).driven := by
  obtain ⟨hsettle, hpasses, -⟩ := hquiet.settles
  have hticks : s.ticksTo .pps = some n := by simp [State.ticksTo, hrun, hpps, hedge, hn]
  obtain ⟨hrun', hpps', -, hclock⟩ := State.elapse_run hrun n
  have hdue : (s.elapse n).ticksTo .pps = some 0 := by
    simp only [State.ticksTo, hrun', hpps', hpps, hclock, Clock.elapseTimers, hedge, Bool.and_self, if_true]
    congr 1
    omega
  rw [exec, execPpsTimeout, answer_eq, s.timedRow_quiet _ n hsettle hticks hpasses
    ((s.firstTimed_eq_none n).2 hquiet.2.2.2), State.takeDue, if_pos hdue]
  rfl

/-- MARK_MISSING whose ticks pass undisturbed. -/
theorem exec_markMissing {n : Nat} (hrun : s.inRun = true) (hmark : s.clock.lastMark.isSome = true)
    (hn : Config.markLimit - s.clock.sinceMark = n) (hquiet : s.Undisturbed n) :
    exec .markMissing s = .next ({ s.elapse n with clock := (s.elapse n).clock.missMark } : State).driven := by
  obtain ⟨hsettle, hpasses, -⟩ := hquiet.settles
  have hticks : s.ticksTo .mark = some n := by simp [State.ticksTo, hrun, hmark, hn]
  obtain ⟨hrun', -, -, hclock⟩ := State.elapse_run hrun n
  have hdue : (s.elapse n).ticksTo .mark = some 0 := by
    simp only [State.ticksTo, hrun', hclock, Clock.elapseTimers, hmark, Bool.and_self, if_true]
    congr 1
    omega
  rw [exec, execMarkMissing, answer_eq, s.timedRow_quiet _ n hsettle hticks hpasses
    ((s.firstTimed_eq_none n).2 hquiet.2.2.2), State.takeDue, if_pos hdue]
  rfl

end

/-- Settles O18: the ticks up to the limit pass undisturbed, and the clock takes what is missing. -/
theorem missedEdgesAndMarks : Obligations.MissedEdgesAndMarks := by
  unfold Obligations.MissedEdgesAndMarks
  refine fun s hrun => ⟨fun hpps hedge hquiet => ?_, fun hmark hquiet => ?_⟩
  · generalize hn : 24002400 - s.clock.sinceEdge = n at hquiet ⊢
    have hexec := exec_ppsTimeout hrun hpps hedge hn hquiet
    obtain ⟨-, -, hctl, hclock⟩ := State.elapse_run hrun n
    obtain ⟨-, -, -, hlink, -⟩ := s.elapse_fields n
    have hkept := (State.elapse_protectionKept (s := s) n).symm
    generalize s.elapse n = u at *
    obtain ⟨hqualified, hrun0, hdrift, -, -, htick, hindex, hlocked, hacquiring, hother⟩ :=
      u.clock.disqualify_fields
    have hsync : u.clock.sync = s.clock.sync := by rw [hclock]; rfl
    rw [hsync] at hlocked hacquiring hother
    refine ⟨_, hexec, hqualified, hrun0, rfl, hdrift, htick.trans (by rw [hclock]; rfl), fun h => ?_, hacquiring,
      fun h h1 => (hother h h1).1, hindex.trans (by rw [hclock]; rfl), hctl, hlink, hkept⟩
    obtain ⟨h1, h2, h3⟩ := hlocked h
    exact ⟨h1, h3, h2⟩
  · generalize hn : 24002400 - s.clock.sinceMark = n at hquiet ⊢
    have hexec := exec_markMissing hrun hmark hn hquiet
    obtain ⟨-, -, hctl, hclock⟩ := State.elapse_run hrun n
    obtain ⟨-, -, -, hlink, -⟩ := s.elapse_fields n
    have hkept := (State.elapse_protectionKept (s := s) n).symm
    generalize s.elapse n = u at *
    rw [hclock] at hexec
    exact ⟨_, hexec, rfl, rfl, rfl, rfl, rfl, rfl, hctl, hlink, hkept⟩

/-! ### The acquisition step (R26, R92, R124) -/

/-- The periods of a step lead past the elapsed ticks, and no fewer do. -/
theorem stepPeriods_spec {p : Nat} (hp : 0 < p) (elapsed : Nat) : 1 ≤ stepPeriods p elapsed
    ∧ elapsed + 1 ≤ stepPeriods p elapsed * p / 256
    ∧ ∀ i, 1 ≤ i → i < stepPeriods p elapsed → i * p / 256 ≤ elapsed := by
  have hceil : (elapsed + 1) * 256 + p - 1 < (((elapsed + 1) * 256 + p - 1) / p + 1) * p :=
    (Nat.div_lt_iff_lt_mul hp).1 (Nat.lt_succ_self _)
  rw [Nat.add_mul (((elapsed + 1) * 256 + p - 1) / p) 1 p, Nat.one_mul] at hceil
  refine ⟨le_max_left _ _, ?_, fun i hi hlt => ?_⟩
  · rw [Nat.le_div_iff_mul_le (by decide)]
    calc (elapsed + 1) * 256 ≤ ((elapsed + 1) * 256 + p - 1) / p * p := by omega
      _ ≤ stepPeriods p elapsed * p := Nat.mul_le_mul_right _ (le_max_right _ _)
  · have hbelow : i + 1 ≤ ((elapsed + 1) * 256 + p - 1) / p := by
      rw [stepPeriods] at hlt
      omega
    rw [Nat.le_div_iff_mul_le hp, Nat.add_mul, Nat.one_mul] at hbelow
    omega

/-- ACQUISITION_STEP with a base due. -/
theorem exec_acquisitionStep {s : State} {b : Stamp} (hrun : s.inRun = true) (hsync : s.clock.sync = .acquiring)
    (hdue : s.clock.stepDue = some b) : exec .acquisitionStep s = .next ({ s with
      clock := s.clock.step b, bay := s.bay.abandon, asm := s.asm.flush,
        diff := s.diff.clearWindows } : State).driven := by
  rw [exec, execAcquisitionStep, answer_eq, State.takeStep]
  simp only [hdue, hrun, hsync, beq_self_eq_true, Bool.and_self, if_true]

/-- The next instant after a step lies whole periods after its base. -/
theorem Clock.step_grid (c : Clock) (b : Stamp) (hago : 0 ≤ tickDiff c.tick b.tick) (hlow : -512 ≤ c.trim) :
    ∃ j : Nat, 1 ≤ j ∧ ((c.step b).index + 1) % 48000 = (b.index + j) % 48000
      ∧ ((c.step b).remaining : Int) + tickDiff c.tick b.tick = j * (2560000 + c.trim) / 256
      ∧ 0 < (c.step b).remaining
      ∧ ∀ i : Nat, 1 ≤ i → i < j → i * (2560000 + c.trim) / 256 ≤ tickDiff c.tick b.tick := by
  obtain ⟨p, hp⟩ := Int.eq_ofNat_of_zero_le (show 0 ≤ 2560000 + c.trim by omega)
  obtain ⟨e, he⟩ := Int.eq_ofNat_of_zero_le hago
  obtain ⟨hone, hpast, hleast⟩ := stepPeriods_spec (show 0 < p by omega) e
  have hindex : (c.step b).index = (b.index + stepPeriods p e - 1) % 48000 := by
    simp [Clock.step, Config.nominalPeriod, Config.indexCount, Clock.clearSlew, Clock.clearBatch, hp, he]
  have hremaining : (c.step b).remaining = stepPeriods p e * p / 256 - e := by
    simp [Clock.step, Config.nominalPeriod, Clock.clearSlew, Clock.clearBatch, hp, he]
  rw [hindex, hremaining, hp, he]
  generalize stepPeriods p e = j at *
  refine ⟨j, hone, ?_, ?_, by omega, fun i hi hij => ?_⟩
  · omega
  · rw [Nat.cast_sub (by omega)]
    push_cast
    omega
  · exact_mod_cast hleast i hi hij

/-- A step leaves the block reasons of a slot. -/
theorem Diff.clearWindows_blocked (d : Diff) (g : Zone) :
    d.clearWindows.blocked (d.clearWindows.groups.get g) = d.blocked (d.groups.get g) := by
  simp [Diff.clearWindows, Diff.blocked, Diff.unitWide, Slot.clearWindow, Slot.unoperate]

/-- Settles O19: the grid by the periods of the step, the flushes field by field. -/
theorem acquisitionStep : Obligations.AcquisitionStep := by
  unfold Obligations.AcquisitionStep
  intro s b hrun hsync hdue hago hlow _ _
  refine ⟨_, exec_acquisitionStep hrun hsync hdue, s.clock.step_grid b hago hlow, rfl, rfl, rfl, rfl, rfl, rfl, rfl,
    hsync, rfl, rfl, rfl, rfl, rfl, fun g => ⟨?_, ?_, ?_, ?_, ?_, s.diff.clearWindows_blocked g⟩, rfl, rfl, rfl,
      rfl, rfl,
    rfl, rfl, rfl, rfl, rfl⟩ <;>
    simp [Diff.clearWindows, Slot.clearWindow, Slot.unoperate]

/-! ### PPS edges (R20, R24, R28, R29) -/

/-- The record that starts a new interval at an edge. -/
def Clock.newInterval (c : Clock) : Clock := { c with lastEdge := some c.tick, sinceEdge := 0 }

theorem intervalValid_iff (i : Nat) : intervalValid i = true ↔ 23997600 ≤ i ∧ i ≤ 24002400 := by
  simp [intervalValid, Config.ppsInterval, Config.ppsTolerance]

section

variable (c : Clock)

theorem Clock.countEdge_first (h : c.lastEdge = none) : c.countEdge = c.newInterval := by
  simp [Clock.countEdge, h, Clock.newInterval]

theorem Clock.countEdge_valid {e : Tick} (h : c.lastEdge = some e) (h1 : intervalValid (c.tick - e).toNat = true) :
    c.countEdge = { c.newInterval with
      validRun := satInc 3 c.validRun, qualified := c.qualified || satInc 3 c.validRun == 3 } := by
  rw [Clock.countEdge, h]
  exact if_pos h1

theorem Clock.countEdge_invalid {e : Tick} (h : c.lastEdge = some e)
    (h1 : intervalValid (c.tick - e).toNat = false) :
    c.countEdge = if c.qualified then c.newInterval.disqualify else { c.newInterval with validRun := 0 } := by
  rw [Clock.countEdge, h]
  exact if_neg (by simp only [h1, Bool.false_eq_true, not_false_eq_true])

/-- The record of R20 after an edge. -/
theorem Clock.countEdge_record : c.countEdge.lastEdge = some c.tick ∧ c.countEdge.sinceEdge = 0
    ∧ c.countEdge.tick = c.tick ∧ c.countEdge.index = c.index
    ∧ (c.lastEdge = none → c.countEdge.validRun = c.validRun ∧ c.countEdge.qualified = c.qualified)
    ∧ (∀ e, c.lastEdge = some e →
        (intervalValid (c.tick - e).toNat = true → c.countEdge.validRun = satInc 3 c.validRun
          ∧ (c.countEdge.qualified = true ↔ c.qualified = true ∨ c.countEdge.validRun = 3))
        ∧ (intervalValid (c.tick - e).toNat = false →
            c.countEdge.validRun = 0 ∧ c.countEdge.qualified = false)) := by
  cases hedge : c.lastEdge with
  | none =>
    rw [c.countEdge_first hedge]
    exact ⟨rfl, rfl, rfl, rfl, fun _ => ⟨rfl, rfl⟩, fun e he => by simp at he⟩
  | some e =>
    cases hvalid : intervalValid (c.tick - e).toNat
    · rw [c.countEdge_invalid hedge hvalid]
      cases hqualified : c.qualified
      · refine ⟨rfl, rfl, rfl, rfl, by simp, fun e' he => ?_⟩
        cases he
        exact ⟨fun h => absurd (hvalid.symm.trans h) (by decide), fun _ => ⟨rfl, hqualified⟩⟩
      · obtain ⟨h1, h2, -, h3, h4, h5, h6, -⟩ := c.newInterval.disqualify_fields
        refine ⟨h3, h4, h5, h6, by simp, fun e' he => ?_⟩
        cases he
        exact ⟨fun h => absurd (hvalid.symm.trans h) (by decide), fun _ => ⟨h2, h1⟩⟩
    · rw [c.countEdge_valid hedge hvalid]
      refine ⟨rfl, rfl, rfl, rfl, by simp, fun e' he => ?_⟩
      cases he
      refine ⟨fun _ => ⟨rfl, ?_⟩, fun h => absurd (hvalid.symm.trans h) (by decide)⟩
      simp

/-- An edge that leaves PPS qualified changes the record alone. -/
theorem Clock.countEdge_qualified (h : c.countEdge.qualified = true) :
    ∃ run, c.countEdge = { c.newInterval with validRun := run, qualified := true } := by
  cases hedge : c.lastEdge with
  | none =>
    rw [c.countEdge_first hedge] at h ⊢
    exact ⟨c.validRun, by rw [← h]; rfl⟩
  | some e =>
    cases hvalid : intervalValid (c.tick - e).toNat
    · obtain ⟨-, -, -, -, -, hrecord⟩ := c.countEdge_record
      simp [(hrecord e hedge).2 hvalid] at h
    · rw [c.countEdge_valid hedge hvalid] at h ⊢
      exact ⟨_, by rw [← h]⟩

/-- An edge that leaves PPS not qualified disqualifies it if it was. -/
theorem Clock.countEdge_notQualified (h : c.countEdge.qualified = false) :
    (c.qualified = true ∧ c.sync = .lockedPps →
        c.countEdge.sync = .holdover ∧ c.countEdge.slew = 0 ∧ c.countEdge.holdoverElapsed = 0)
      ∧ (c.qualified = true ∧ c.sync = .acquiring → c.countEdge.sync = .unlocked ∧ c.countEdge.slew = 0)
      ∧ (c.qualified = false ∨ (c.sync ≠ .lockedPps ∧ c.sync ≠ .acquiring) →
        c.countEdge.sync = c.sync ∧ c.countEdge.slew = c.slew) := by
  cases hqualified : c.qualified
  · have hsame : c.countEdge.sync = c.sync ∧ c.countEdge.slew = c.slew := by
      cases hedge : c.lastEdge with
      | none =>
        rw [c.countEdge_first hedge]
        exact ⟨rfl, rfl⟩
      | some e =>
        cases hvalid : intervalValid (c.tick - e).toNat
        · rw [c.countEdge_invalid hedge hvalid, hqualified]
          exact ⟨rfl, rfl⟩
        · rw [c.countEdge_valid hedge hvalid]
          exact ⟨rfl, rfl⟩
    exact ⟨by simp, by simp, fun _ => hsame⟩
  · have hcount : c.countEdge = c.newInterval.disqualify := by
      cases hedge : c.lastEdge with
      | none =>
        rw [c.countEdge_first hedge] at h
        exact absurd (hqualified.symm.trans h) (by decide)
      | some e =>
        cases hvalid : intervalValid (c.tick - e).toNat
        · rw [c.countEdge_invalid hedge hvalid, hqualified, if_pos rfl]
        · rw [c.countEdge_valid hedge hvalid] at h
          simp [hqualified] at h
    obtain ⟨-, -, -, -, -, -, -, hlocked, hacquiring, hother⟩ := c.newInterval.disqualify_fields
    rw [hcount]
    refine ⟨fun h => hlocked h.2, fun h => hacquiring h.2, fun h => ?_⟩
    obtain ⟨hnotLocked, hnotAcquiring⟩ := h.resolve_left (by simp)
    exact hother hnotLocked hnotAcquiring

/-- A slew of an edge's error sets the slew alone (R28). -/
theorem Clock.ppsSlew_eq (e : Int) : ∃ live, c.ppsSlew e = { c with
    slew := if e.natAbs ≤ 480 ∧ e ≠ 0 then max (-240) (min 240 e) else c.slew, slewLive := live } := by
  have hclamp : e.natAbs ≤ 480 ∧ clampTo 240 e ≠ 0 ↔ e.natAbs ≤ 480 ∧ e ≠ 0 := by
    rw [clampTo]
    omega
  by_cases h : e.natAbs ≤ 480 ∧ e ≠ 0
  · rw [Clock.ppsSlew, if_pos (hclamp.2 h), if_pos h]
    exact ⟨_, rfl⟩
  · rw [Clock.ppsSlew, if_neg (fun h1 => h (hclamp.1 h1)), if_neg h]
    exact ⟨_, rfl⟩

/-- The excursion rule (R29). -/
theorem Clock.excursionRule_cases (limit : Nat) (e : Int) :
    (e.natAbs ≤ 480 → c.excursionRule limit e = { c with excursion := 0 })
      ∧ (480 < e.natAbs → c.excursion + 1 < limit → c.excursionRule limit e = { c with excursion := c.excursion + 1 })
      ∧ (480 < e.natAbs → limit ≤ c.excursion + 1 →
          c.excursionRule limit e = ({ c with excursion := c.excursion + 1 } : Clock).enter .acquiring) := by
  refine ⟨fun h => ?_, fun h h1 => ?_, fun h h1 => ?_⟩
  · rw [Clock.excursionRule, if_neg (not_lt.2 h)]
  · rw [Clock.excursionRule, if_pos h]
    exact if_neg (not_le.2 h1)
  · rw [Clock.excursionRule, if_pos h]
    exact if_pos h1

/-- An edge measured in ACQUIRING (R24): the slew, the lock progress and, at 3, LOCKED-PPS. -/
theorem Clock.ppsAcquire_cases (e : Int) :
    (e.natAbs ≤ 24 → (c.ppsAcquire e).lockProgress = c.lockProgress + 1
        ∧ (c.ppsAcquire e).sync = if 2 ≤ c.lockProgress then .lockedPps else c.sync)
      ∧ (24 < e.natAbs → (c.ppsAcquire e).lockProgress = 0 ∧ (c.ppsAcquire e).sync = c.sync)
      ∧ (c.ppsAcquire e).slew = if e.natAbs ≤ 480 ∧ e ≠ 0 then max (-240) (min 240 e) else c.slew := by
  obtain ⟨live, hslew⟩ := c.ppsSlew_eq e
  rw [Clock.ppsAcquire, hslew]
  dsimp only
  generalize (if e.natAbs ≤ 480 ∧ e ≠ 0 then max (-240) (min 240 e) else c.slew) = slew
  by_cases hnear : e.natAbs ≤ 24
  · rw [if_pos hnear]
    by_cases hthree : 3 ≤ c.lockProgress + 1
    · rw [if_pos hthree, if_pos (by omega)]
      exact ⟨fun _ => ⟨rfl, rfl⟩, fun h => absurd hnear (not_le.2 h), rfl⟩
    · rw [if_neg hthree, if_neg (by omega)]
      exact ⟨fun _ => ⟨rfl, rfl⟩, fun h => absurd hnear (not_le.2 h), rfl⟩
  · rw [if_neg hnear]
    exact ⟨fun h => absurd h hnear, fun _ => ⟨rfl, rfl⟩, rfl⟩

/-- What a qualified edge leaves of the clock (R20). -/
theorem Clock.qualifiedEdge_record : c.qualifiedEdge.lastEdge = c.lastEdge ∧ c.qualifiedEdge.sinceEdge = c.sinceEdge
    ∧ c.qualifiedEdge.tick = c.tick ∧ c.qualifiedEdge.index = c.index ∧ c.qualifiedEdge.validRun = c.validRun
    ∧ c.qualifiedEdge.qualified = c.qualified := by
  have hacquire (e : Int) : (c.ppsAcquire e).lastEdge = c.lastEdge ∧ (c.ppsAcquire e).sinceEdge = c.sinceEdge
      ∧ (c.ppsAcquire e).tick = c.tick ∧ (c.ppsAcquire e).index = c.index ∧ (c.ppsAcquire e).validRun = c.validRun
      ∧ (c.ppsAcquire e).qualified = c.qualified := by
    obtain ⟨live, hslew⟩ := c.ppsSlew_eq e
    rw [Clock.ppsAcquire, hslew]
    dsimp only
    split_ifs <;> exact ⟨rfl, rfl, rfl, rfl, rfl, rfl⟩
  have hexcursion (e : Int) : ((c.ppsSlew e).excursionRule 2 e).lastEdge = c.lastEdge
      ∧ ((c.ppsSlew e).excursionRule 2 e).sinceEdge = c.sinceEdge ∧ ((c.ppsSlew e).excursionRule 2 e).tick = c.tick
      ∧ ((c.ppsSlew e).excursionRule 2 e).index = c.index
      ∧ ((c.ppsSlew e).excursionRule 2 e).validRun = c.validRun
      ∧ ((c.ppsSlew e).excursionRule 2 e).qualified = c.qualified := by
    obtain ⟨live, hslew⟩ := c.ppsSlew_eq e
    rw [Clock.excursionRule, hslew]
    dsimp only
    split_ifs <;> exact ⟨rfl, rfl, rfl, rfl, rfl, rfl⟩
  unfold Clock.qualifiedEdge
  split
  · exact ⟨rfl, rfl, rfl, rfl, rfl, rfl⟩
  · exact ⟨rfl, rfl, rfl, rfl, rfl, rfl⟩
  · split_ifs
    · exact ⟨rfl, rfl, rfl, rfl, rfl, rfl⟩
    · split
      · exact hacquire _
      · exact ⟨rfl, rfl, rfl, rfl, rfl, rfl⟩
  · split
    · exact hexcursion _
    · exact ⟨rfl, rfl, rfl, rfl, rfl, rfl⟩
  · exact ⟨rfl, rfl, rfl, rfl, rfl, rfl⟩
  · exact ⟨rfl, rfl, rfl, rfl, rfl, rfl⟩

/-- An edge that leaves PPS qualified is taken by the state machine and is a second mark. -/
theorem Clock.edge_qualified (m : Nat) (h : c.countEdge.qualified = true) : ∃ run drift trim lastDrift rejects,
    c.countEdge = { c.newInterval with validRun := run, qualified := true }
    ∧ c.edge m = { ({ c.newInterval with validRun := run, qualified := true } : Clock).qualifiedEdge with
      drift := drift, trim := trim, lastDrift := lastDrift, driftRejects := rejects
      lastMark := some ⟨c.tick, none⟩, sinceMark := 0 } := by
  obtain ⟨run, hcount⟩ := c.countEdge_qualified h
  obtain ⟨-, -, htick, -⟩ := Clock.qualifiedEdge_record { c.newInterval with validRun := run, qualified := true }
  obtain ⟨drift, trim, lastDrift, rejects, hmark⟩ :=
    Clock.secondMark_eq ({ c.newInterval with validRun := run, qualified := true } : Clock).qualifiedEdge m none
  refine ⟨run, drift, trim, lastDrift, rejects, hcount, ?_⟩
  rw [Clock.edge]
  dsimp only
  rw [if_pos h, hcount, hmark, htick]
  rfl

/-- The base of a step: the second after the authority's latest used frame when it is young, else the own (R24). -/
theorem Clock.ppsBase_cases :
    (∀ n u, c.authority = .peer n → c.lastUsed = some u → (c.tick - u.tick).toNat ≤ 12000000 →
        c.ppsBase = ⟨(u.index / 2400 + 1) * 2400 % 48000, c.tick⟩)
      ∧ (¬(∃ n u, c.authority = .peer n ∧ c.lastUsed = some u ∧ (c.tick - u.tick).toNat ≤ 12000000) →
        c.ppsBase = ⟨c.index / 2400 * 2400, c.tick⟩) := by
  refine ⟨fun n u hauthority hused hyoung => ?_, fun hnone => ?_⟩
  · simp only [Clock.ppsBase, hauthority, hused]
    rw [if_pos hyoung]
  · unfold Clock.ppsBase
    dsimp only
    split
    next n u hauthority hused =>
      rw [if_neg fun hyoung => hnone ⟨n, u, hauthority, hused, hyoung⟩]
    next => rfl

/-- The error of an edge is the nearer of those against the multiples of 2,400 before and after (R28). -/
theorem Clock.ppsError_nearest {st : Stamp} {t0 t1 : Tick} (h : c.anchor = some st)
    (h0 : c.ownTick (st.index / 2400 * 2400) = some t0)
    (h1 : c.ownTick ((st.index / 2400 * 2400 + 2400) % 48000) = some t1) :
    ∃ e, c.ppsError = some e ∧ (e = tickDiff c.tick t0 ∨ e = tickDiff c.tick t1)
      ∧ e.natAbs ≤ (tickDiff c.tick t0).natAbs ∧ e.natAbs ≤ (tickDiff c.tick t1).natAbs := by
  refine ⟨nearer (tickDiff c.tick t0) (tickDiff c.tick t1), ?_, ?_⟩
  · simp [Clock.ppsError, h, Config.sampleRate, Config.indexCount, h0, h1]
  · unfold nearer
    split_ifs with hnear
    · exact ⟨.inl rfl, le_refl _, hnear⟩
    · exact ⟨.inr rfl, by omega, le_refl _⟩

end

/-- What a qualified edge does in the state that takes it (R23, R24, R28, R29, R32), written of the clock before. -/
theorem Clock.qualifiedEdge_cases (c : Clock) :
    (c.sync = .unlocked ∨ c.sync = .holdover → c.qualifiedEdge = c.enter .acquiring)
      ∧ (c.sync = .acquiring → c.stepPending = true → c.qualifiedEdge = { c with stepDue := some c.ppsBase })
      ∧ ∀ e, c.ppsError = some e →
        (c.sync = .acquiring → c.stepPending = false → c.qualifiedEdge = c.ppsAcquire e)
        ∧ (c.sync = .lockedPps → c.qualifiedEdge = (c.ppsSlew e).excursionRule 2 e) := by
  refine ⟨?_, fun hsync hpending => ?_, fun e he => ⟨fun hsync hpending => ?_, fun hsync => ?_⟩⟩
  · rintro (hsync | hsync) <;> simp [Clock.qualifiedEdge, hsync]
  · simp [Clock.qualifiedEdge, hsync, hpending]
  · simp [Clock.qualifiedEdge, hsync, hpending, he]
  · simp [Clock.qualifiedEdge, hsync, he]

/-- An edge's error in ACQUIRING and in LOCKED-PPS. -/
theorem Clock.qualifiedEdge_error (c : Clock) {e : Int} (he : c.ppsError = some e) :
    (c.sync = .acquiring → c.stepPending = false →
        (e.natAbs ≤ 24 → c.qualifiedEdge.lockProgress = c.lockProgress + 1
          ∧ c.qualifiedEdge.sync = if 2 ≤ c.lockProgress then .lockedPps else .acquiring)
        ∧ (24 < e.natAbs → c.qualifiedEdge.lockProgress = 0 ∧ c.qualifiedEdge.sync = .acquiring))
      ∧ (c.sync = .lockedPps →
        (e.natAbs ≤ 480 → c.qualifiedEdge.sync = .lockedPps ∧ c.qualifiedEdge.excursion = 0)
        ∧ (480 < e.natAbs → c.excursion = 0 → c.qualifiedEdge.sync = .lockedPps ∧ c.qualifiedEdge.excursion = 1)
        ∧ (480 < e.natAbs → 1 ≤ c.excursion →
            c.qualifiedEdge.sync = .acquiring ∧ c.qualifiedEdge.stepPending = true ∧ c.qualifiedEdge.slew = 0))
      ∧ (c.sync = .lockedPps ∨ (c.sync = .acquiring ∧ c.stepPending = false) →
        e.natAbs ≤ 480 → c.qualifiedEdge.slew = if e = 0 then c.slew else max (-240) (min 240 e)) := by
  obtain ⟨-, -, hcases⟩ := c.qualifiedEdge_cases
  obtain ⟨hacquiring, hlocked⟩ := hcases e he
  obtain ⟨hnear, hfar, hslew⟩ := c.ppsAcquire_cases e
  obtain ⟨live, hppsSlew⟩ := c.ppsSlew_eq e
  rw [hppsSlew] at hlocked
  obtain ⟨hin, hfirst, hsecond⟩ := Clock.excursionRule_cases
    { c with slew := if e.natAbs ≤ 480 ∧ e ≠ 0 then max (-240) (min 240 e) else c.slew, slewLive := live } 2 e
  have hsame (h : e.natAbs ≤ 480) : (if e.natAbs ≤ 480 ∧ e ≠ 0 then max (-240) (min 240 e) else c.slew)
      = if e = 0 then c.slew else max (-240) (min 240 e) := by
    by_cases h0 : e = 0 <;> simp [h, h0]
  refine ⟨fun hsync hpending => ?_, fun hsync => ?_, fun hsync h480 => ?_⟩
  · rw [hacquiring hsync hpending]
    rw [hsync] at hnear hfar
    exact ⟨hnear, hfar⟩
  · rw [hlocked hsync]
    refine ⟨fun h => ?_, fun h h0 => ?_, fun h h1 => ?_⟩
    · rw [hin h]
      exact ⟨hsync, rfl⟩
    · rw [hfirst h (by rw [h0]; decide)]
      exact ⟨hsync, congrArg (· + 1) h0⟩
    · rw [hsecond h (by dsimp only; omega)]
      exact ⟨rfl, rfl, rfl⟩
  · rcases hsync with hsync | ⟨hsync, hpending⟩
    · rw [hlocked hsync, hin h480]
      exact hsame h480
    · rw [hacquiring hsync hpending, hslew]
      exact hsame h480

/-- Settles O17: the record by the interval that the edge ends, the state machine by the state that takes it. -/
theorem ppsEdge : Obligations.PpsEdge := by
  unfold Obligations.PpsEdge
  intro s hrun hpps hstep
  have hexec : exec .ppsEdge s = .next ({ s with clock := s.clock.edge s.marksM } : State).driven := by
    rw [exec, execPpsEdge, answer_eq, s.takeStep_none hstep, State.ppsEdge, hrun, hpps]
    rfl
  refine ⟨_, hexec, ⟨rfl, rfl, rfl, rfl, rfl, rfl, rfl, rfl, rfl, rfl, rfl, rfl, rfl⟩, ?_⟩
  rw [State.driven_clock]
  dsimp only
  generalize s.clock = c, s.marksM = m at *
  obtain ⟨hlast, hsince, htick, hindex, hfirst, hrecord⟩ := c.countEdge_record
  simp only [← intervalValid_iff, Bool.not_eq_true]
  cases hqualified : c.countEdge.qualified
  · have hedge : c.edge m = c.countEdge := by
      rw [Clock.edge]
      exact if_neg (by simp [hqualified])
    rw [hedge]
    exact ⟨hlast, hsince, htick, hindex, hfirst, hrecord, fun _ => c.countEdge_notQualified hqualified,
      fun h => absurd (hqualified.symm.trans h) (by decide)⟩
  · obtain ⟨run, drift, trim, lastDrift, rejects, hcount, hedge⟩ := c.edge_qualified m hqualified
    obtain ⟨hlast', hsince', htick', hindex', hvalidRun', hqualified'⟩ :=
      Clock.qualifiedEdge_record { c.newInterval with validRun := run, qualified := true }
    obtain ⟨henter, hpending, -⟩ :=
      Clock.qualifiedEdge_cases { c.newInterval with validRun := run, qualified := true }
    obtain ⟨hyoung, hown⟩ := Clock.ppsBase_cases { c.newInterval with validRun := run, qualified := true }
    rw [hcount] at hlast hsince htick hindex hfirst hrecord
    rw [hedge]
    dsimp only
    rw [hlast', hsince', htick', hindex', hvalidRun', hqualified']
    refine ⟨hlast, hsince, htick, hindex, hfirst, hrecord, fun h => absurd h (by simp), fun _ => ⟨rfl, rfl,
      fun hsync => ?_,
      fun hsync hstepPending => ?_, fun e he =>
        Clock.qualifiedEdge_error { c.newInterval with validRun := run, qualified := true } he,
      fun st t0 t1 => c.ppsError_nearest⟩⟩
    · rw [henter hsync]
      exact ⟨rfl, rfl, rfl, rfl, rfl, rfl, rfl, rfl, rfl, rfl, rfl⟩
    · rw [hpending hsync hstepPending]
      exact ⟨hsync, hstepPending, fun n u hn hu hage => congrArg some (hyoung n u hn hu hage),
        fun hnone => congrArg some (hown hnone)⟩

end Sys2Proof.Machine
end

section
/-! PROOFS. The Peer Roster at a closure: the table of R59 and its runs, CONFLICT and its conflict-free run (R61, R62),
PEER_SILENT and CONFLICT_CLEAR. -/

namespace Sys2Proof.Machine

/-! ### The table of R59 -/

section

variable (e : Entry) (sig : BitVec 16)

/-- The entry of a closure is that of the table's row with the flags cleared (R59, R64, R65). -/
theorem Entry.closure_eq : e.closure sig = { e.advance sig with
    frameSeen := false, querySeen := false, statusSeen := false
    liveAtClosure := (e.advance sig).state == .live, excludedBefore := e.state == .excluded } := rfl

/-- ABSENT, EXCLUDED and SILENT become JOINING when a frame with the own signature is seen. -/
theorem Entry.advance_joins (h : e.state = .absent ∨ e.state = .excluded ∨ e.state = .silent)
    (hseen : e.frameSeen = true) (hsig : e.sig = some sig) : e.advance sig = e.join := by
  rcases h with h | h | h <;> simp [Entry.advance, h, hseen, hsig]

/-- ABSENT and EXCLUDED stay without such a frame. -/
theorem Entry.advance_stays (h : e.state = .absent ∨ e.state = .excluded)
    (hmatched : ¬(e.frameSeen = true ∧ e.sig = some sig)) : e.advance sig = { e with good := 0, missed := 0 } := by
  have hnot : ¬(e.frameSeen && e.sig == some sig) = true := by
    simpa using hmatched
  rcases h with h | h <;> rw [Entry.advance, h] <;> exact if_neg hnot

/-- SILENT stays without any frame. -/
theorem Entry.advance_silent (h : e.state = .silent) (hseen : e.frameSeen = false) :
    e.advance sig = { e with missed := satInc 255 e.missed } := by
  simp [Entry.advance, h, hseen]

/-- JOINING with a frame seen. -/
theorem Entry.advance_joining (h : e.state = .joining) (hseen : e.frameSeen = true) :
    e.advance sig = e.goOnJoining := by
  simp [Entry.advance, h, hseen]

/-- LIVE with a frame seen. -/
theorem Entry.advance_live (h : e.state = .live) (hseen : e.frameSeen = true) :
    e.advance sig = { e with good := satInc 65535 e.good, missed := 0 } := by
  simp [Entry.advance, h, hseen, Config.count16]

/-- JOINING and LIVE without a frame. -/
theorem Entry.advance_miss (h : e.state = .joining ∨ e.state = .live) (hseen : e.frameSeen = false) :
    e.advance sig = e.miss := by
  rcases h with h | h <;> simp [Entry.advance, h, hseen]

/-- The 48th frame in a row makes a JOINING entry LIVE. -/
theorem Entry.goOnJoining_eq (h : e.state = .joining) : e.goOnJoining = { e with
    good := satInc 65535 e.good, missed := 0, state := if 47 ≤ e.good then .live else .joining } := by
  unfold Entry.goOnJoining
  dsimp only
  have hgood : 48 ≤ satInc Config.count16 e.good ↔ 47 ≤ e.good := by
    rw [satInc_eq_min_succ, Config.count16]
    omega
  by_cases h47 : 47 ≤ e.good
  · rw [if_pos (hgood.2 h47), if_pos h47]
  · rw [if_neg (mt hgood.1 h47), if_neg h47, ← h]

/-- The 24th closure in a row without a frame makes an entry SILENT. -/
theorem Entry.miss_eq : e.miss = { e with
    good := 0, missed := satInc 255 e.missed, state := if 23 ≤ e.missed then .silent else e.state
    viewRun := if 23 ≤ e.missed then 0 else e.viewRun } := by
  unfold Entry.miss
  dsimp only
  have hmissed : 24 ≤ satInc 255 e.missed ↔ 23 ≤ e.missed := by
    rw [satInc_eq_min_succ]
    omega
  by_cases h23 : 23 ≤ e.missed
  · rw [if_pos (hmissed.2 h23), if_pos h23, if_pos h23]
    rfl
  · rw [if_neg (mt hmissed.1 h23), if_neg h23, if_neg h23]

/-- A row changes the state, the runs and the view-mismatch run alone. -/
theorem Entry.advance_changes : e.advance sig = { e with
    state := (e.advance sig).state, good := (e.advance sig).good, missed := (e.advance sig).missed
    viewRun := (e.advance sig).viewRun } := by
  by_cases hmatched : e.frameSeen = true ∧ e.sig = some sig
  · obtain ⟨hseen, hsig⟩ := hmatched
    cases hstate : e.state
    case joining => rw [e.advance_joining sig hstate hseen, e.goOnJoining_eq hstate]
    case live => rw [e.advance_live sig hstate hseen]
    all_goals
      rw [e.advance_joins sig (by simp [hstate]) hseen hsig]
      rfl
  · cases hstate : e.state
    case absent => rw [e.advance_stays sig (.inl hstate) hmatched]
    case excluded => rw [e.advance_stays sig (.inr hstate) hmatched]
    case silent =>
      rw [Entry.advance, hstate]
      dsimp only
      rw [if_neg (by simpa using hmatched)]
    case joining =>
      by_cases hseen : e.frameSeen = false
      · rw [e.advance_miss sig (.inl hstate) hseen, e.miss_eq]
      · rw [Bool.not_eq_false] at hseen
        rw [e.advance_joining sig hstate hseen, e.goOnJoining_eq hstate]
    case live =>
      by_cases hseen : e.frameSeen = false
      · rw [e.advance_miss sig (.inr hstate) hseen, e.miss_eq]
      · rw [Bool.not_eq_false] at hseen
        rw [e.advance_live sig hstate hseen]

end

/-- The peer is heard at a closure: a frame of it is seen. -/
def Entry.heardAt (sig : BitVec 16) (e : Entry) : Entry := { e with frameSeen := true }.closure sig

/-- A peer with the own signature that is heard at every closure is JOINING for 47 closures and LIVE then. -/
theorem Entry.heardAt_run {e : Entry} {sig : BitVec 16} (hstate : e.state = .absent) (hsig : e.sig = some sig)
    (n : Nat) : ((Entry.heardAt sig)^[n + 1] e).sig = some sig
      ∧ (n < 47 → ((Entry.heardAt sig)^[n + 1] e).state = .joining ∧ ((Entry.heardAt sig)^[n + 1] e).good = n + 1)
      ∧ (47 ≤ n → ((Entry.heardAt sig)^[n + 1] e).state = .live) := by
  induction n with
  | zero =>
    rw [Function.iterate_one, Entry.heardAt, Entry.closure_eq,
      Entry.advance_joins { e with frameSeen := true } sig (.inl hstate) rfl hsig]
    exact ⟨hsig, fun _ => ⟨rfl, rfl⟩, by omega⟩
  | succ n ih =>
    rw [Function.iterate_succ_apply']
    generalize (Entry.heardAt sig)^[n + 1] e = x at ih
    obtain ⟨hx, hjoining, hlive⟩ := ih
    rw [Entry.heardAt, Entry.closure_eq]
    by_cases hn : n < 47
    · obtain ⟨hstate, hgood⟩ := hjoining hn
      rw [Entry.advance_joining { x with frameSeen := true } sig hstate rfl,
        Entry.goOnJoining_eq { x with frameSeen := true } hstate]
      refine ⟨hx, fun h => ⟨if_neg ?_, ?_⟩, fun h => if_pos ?_⟩
      · show ¬47 ≤ x.good
        omega
      · show satInc 65535 x.good = n + 1 + 1
        rw [hgood, satInc_eq_min_succ]
        omega
      · show 47 ≤ x.good
        omega
    · rw [Entry.advance_live { x with frameSeen := true } sig (hlive (by omega)) rfl]
      exact ⟨hx, by omega, fun _ => hlive (by omega)⟩

/-- A LIVE peer that is not heard is LIVE for 23 closures and SILENT then. -/
theorem Entry.unheard_run {e : Entry} {sig : BitVec 16} (hstate : e.state = .live) (hmissed : e.missed = 0)
    (hseen : e.frameSeen = false) (n : Nat) : ((fun x : Entry => x.closure sig)^[n] e).frameSeen = false
      ∧ (n < 24 → ((fun x : Entry => x.closure sig)^[n] e).state = .live
          ∧ ((fun x : Entry => x.closure sig)^[n] e).missed = n)
      ∧ (24 ≤ n → ((fun x : Entry => x.closure sig)^[n] e).state = .silent) := by
  induction n with
  | zero => exact ⟨hseen, fun _ => ⟨hstate, hmissed⟩, by omega⟩
  | succ n ih =>
    rw [Function.iterate_succ_apply']
    generalize (fun x : Entry => x.closure sig)^[n] e = x at ih ⊢
    obtain ⟨hx, hlive, hsilent⟩ := ih
    rw [Entry.closure_eq]
    by_cases hn : n < 24
    · obtain ⟨hstate, hmissed⟩ := hlive hn
      rw [Entry.advance_miss _ _ (.inr hstate) hx, Entry.miss_eq]
      refine ⟨rfl, fun h => ⟨?_, ?_⟩, fun h => if_pos ?_⟩
      · exact (if_neg (by omega)).trans hstate
      · show satInc 255 x.missed = n + 1
        rw [hmissed, satInc_eq_min_succ]
        omega
      · omega
    · rw [Entry.advance_silent _ _ (hsilent (by omega)) hx]
      exact ⟨rfl, by omega, fun _ => hsilent (by omega)⟩

/-! ### The closure of the roster in RUN -/

section

variable (s : State)

/-- The station with the entries of its roster as a closure leaves them. -/
def State.withClosedEntries (s : State) : State := { s with roster := { s.roster with
  entries := .ofFn fun n => if s.isOwn n then s.entry n else (s.entry n).closure s.ownSig } }

/-- The closure of the roster in RUN: the entries, CONFLICT, VIEW. -/
theorem State.rosterClosure_eq (h : s.ctl.mode = .run) :
    s.rosterClosure = s.withClosedEntries.conflictClosure.viewClear := by
  rw [State.rosterClosure]
  exact if_pos h

theorem State.conflictClosure_clear (h : s.roster.conflict = false) : s.conflictClosure = s := by
  simp [State.conflictClosure, h]

theorem State.conflictClosure_heard (h : s.roster.conflict = true) (hheard : s.roster.conflictHeard = true) :
    s.conflictClosure = { s with roster := { s.roster with conflictHeard := false, conflictFree := 0 } } := by
  simp [State.conflictClosure, h, hheard]

theorem State.conflictClosure_counts (h : s.roster.conflict = true) (hheard : s.roster.conflictHeard = false)
    (hfree : s.roster.conflictFree + 1 < 2400) : s.conflictClosure
      = { s with roster := { s.roster with conflictFree := s.roster.conflictFree + 1 } } := by
  simp only [State.conflictClosure, h, hheard, Bool.not_true, Bool.false_eq_true, if_false]
  exact if_neg (not_le.2 hfree)

theorem State.conflictClosure_ends (h : s.roster.conflict = true) (hheard : s.roster.conflictHeard = false)
    (hfree : 2400 ≤ s.roster.conflictFree + 1) : s.conflictClosure = { s with
      roster := { s.roster with conflict := false, conflictFree := 0 },
        diff := { s.diff with conflict := false } } := by
  simp only [State.conflictClosure, h, hheard, Bool.not_true, Bool.false_eq_true, if_false]
  exact if_pos hfree

/-- CONFLICT at a closure leaves the entries, and of the other blocks all but the Differential Unit. -/
theorem State.conflictClosure_changes : s.conflictClosure = { s with
    roster := { s.roster with
      conflict := s.conflictClosure.roster.conflict, conflictHeard := s.conflictClosure.roster.conflictHeard
      conflictFree := s.conflictClosure.roster.conflictFree }
    diff := s.conflictClosure.diff } := by
  cases hconflict : s.roster.conflict
  · rw [s.conflictClosure_clear hconflict]
  · cases hheard : s.roster.conflictHeard
    · by_cases hfree : s.roster.conflictFree + 1 < 2400
      · rw [s.conflictClosure_counts hconflict hheard hfree]
      · rw [s.conflictClosure_ends hconflict hheard (not_lt.1 hfree)]
    · rw [s.conflictClosure_heard hconflict hheard]

/-- The conflict-free run of a CONFLICT that is not heard again: it ends at the 2,400th closure in RUN. -/
theorem State.conflict_run (hrun : s.ctl.mode = .run) (h : s.roster.conflict = true)
    (hheard : s.roster.conflictHeard = false) (hfree : s.roster.conflictFree = 0) (n : Nat) (hn : n ≤ 2400) :
    (State.rosterClosure^[n] s).ctl.mode = .run ∧ (State.rosterClosure^[n] s).roster.conflictHeard = false
      ∧ (State.rosterClosure^[n] s).roster.conflict = decide (n < 2400)
      ∧ (n < 2400 → (State.rosterClosure^[n] s).roster.conflictFree = n) := by
  induction n with
  | zero => exact ⟨hrun, hheard, h, fun _ => hfree⟩
  | succ n ih =>
    rw [Function.iterate_succ_apply']
    have ih := ih (by omega)
    generalize State.rosterClosure^[n] s = u at ih
    obtain ⟨hmode, hheard, hconflict, hcount⟩ := ih
    have hcount := hcount (by omega)
    rw [decide_eq_true (by omega)] at hconflict
    rw [u.rosterClosure_eq hmode, State.viewClear_eq]
    by_cases hlast : n + 1 < 2400
    · rw [u.withClosedEntries.conflictClosure_counts hconflict hheard (by
        show u.roster.conflictFree + 1 < 2400
        omega)]
      refine ⟨hmode, hheard, ?_, fun _ => ?_⟩
      · rw [decide_eq_true hlast]
        exact hconflict
      · exact congrArg (· + 1) hcount
    · rw [u.withClosedEntries.conflictClosure_ends hconflict hheard (by
        show 2400 ≤ u.roster.conflictFree + 1
        omega)]
      exact ⟨hmode, hheard, (decide_eq_false hlast).symm, fun h => absurd h hlast⟩

end

/-- Settles O30: the entries of a closure, the table row by row, and its two runs by induction. -/
theorem peerStateRuns : Obligations.PeerStateRuns := by
  unfold Obligations.PeerStateRuns
  refine ⟨fun s n hrun => ?_, fun e sig => ?_, fun e sig hstate hsig n hn => ?_,
    fun e sig hstate hmissed hseen n => ?_⟩
  · rw [s.rosterClosure_eq hrun, State.viewClear_eq, s.withClosedEntries.conflictClosure_changes]
    simp only [State.entry, State.withClosedEntries, Tab.get_ofFn]
  · rw [Entry.closure_eq]
    refine ⟨rfl, rfl, rfl, fun h hmatched => ?_, fun h hmatched => ?_, fun h hseen => ?_, fun h hseen => ?_,
      fun h hseen => ?_, fun h hseen => ?_, fun h hleft => ?_, ?_⟩
    · obtain ⟨hseen, hsig⟩ := hmatched
      rw [e.advance_joins sig h hseen hsig]
      exact ⟨rfl, rfl, rfl⟩
    · rw [e.advance_stays sig h hmatched]
      exact ⟨rfl, rfl, rfl⟩
    · rw [e.advance_silent sig h hseen]
      exact ⟨h, rfl, rfl⟩
    · rw [e.advance_joining sig h hseen, e.goOnJoining_eq h]
      exact ⟨rfl, rfl, rfl⟩
    · rw [e.advance_live sig h hseen]
      exact ⟨h, rfl, rfl⟩
    · rw [e.advance_miss sig h hseen, e.miss_eq]
      exact ⟨rfl, rfl, rfl⟩
    · cases hseen : e.frameSeen
      · rw [e.advance_miss sig (.inr h) hseen, e.miss_eq] at hleft ⊢
        by_cases h23 : 23 ≤ e.missed
        · exact if_pos h23
        · exact absurd ((if_neg h23).trans h) hleft
      · rw [e.advance_live sig h hseen] at hleft
        exact absurd h hleft
    · rw [e.advance_changes sig]
  · obtain ⟨m, rfl⟩ : ∃ m, n = m + 1 := ⟨n - 1, by omega⟩
    obtain ⟨-, hjoining, hlive⟩ := Entry.heardAt_run hstate hsig m
    by_cases h : m + 1 < 48
    · exact (hjoining (by omega)).1.trans (if_pos h).symm
    · exact (hlive (by omega)).trans (if_neg h).symm
  · obtain ⟨-, hlive, hsilent⟩ := Entry.unheard_run (sig := sig) hstate hmissed hseen n
    by_cases h : n < 24
    · rw [if_pos h]
      exact (hlive h).1
    · rw [if_neg h]
      exact hsilent (by omega)

/-- Settles O29: CONFLICT case by case, its run by induction, and the two rows. -/
theorem rosterExpiries : Obligations.RosterExpiries := by
  unfold Obligations.RosterExpiries
  refine ⟨fun s hrun => ?_, fun s hrun => ⟨fun n hpeer hstate hmissed => ?_, fun hconflict hfree => ?_⟩⟩
  · dsimp only
    refine ⟨fun h => ?_, fun h hheard => ?_, fun h hheard => ⟨?_, fun hfree => ?_, fun hfree => ?_⟩,
      fun h hheard hfree n hn => (s.conflict_run hrun h hheard hfree n hn).2.2.1, ?_⟩
    all_goals rw [s.rosterClosure_eq hrun, State.viewClear_eq]
    · rw [s.withClosedEntries.conflictClosure_clear h]
      exact ⟨h, rfl, rfl, rfl⟩
    · rw [s.withClosedEntries.conflictClosure_heard h hheard]
      exact ⟨h, rfl, rfl, rfl⟩
    · by_cases hfree : s.roster.conflictFree + 1 < 2400
      · rw [s.withClosedEntries.conflictClosure_counts h hheard hfree]
        exact hheard
      · rw [s.withClosedEntries.conflictClosure_ends h hheard (not_lt.1 hfree)]
        exact hheard
    · rw [s.withClosedEntries.conflictClosure_counts h hheard hfree]
      exact ⟨h, rfl, rfl⟩
    · rw [s.withClosedEntries.conflictClosure_ends h hheard hfree]
      exact ⟨rfl, rfl, rfl⟩
    · rw [s.withClosedEntries.conflictClosure_changes]
      exact ⟨rfl, rfl, rfl, rfl, rfl, rfl, rfl⟩
  · have hrow : (s.inRun && !s.isOwn n && ((s.entry n).state == .joining || (s.entry n).state == .live)
        && decide (24 ≤ (s.entry n).missed)) = true := by
      simpa [hrun, hpeer, hmissed] using hstate
    refine ⟨(s.onEntry n fun e => { e.silence with liveAtClosure := false }).driven, ?_, ?_⟩
    · rw [exec, execPeerSilent, answer_eq]
      exact congrArg (fun t : State => Host.Outcome.next t.driven) (if_pos hrow)
    · have hentry (m : Station) : (s.onEntry n fun e => { e.silence with liveAtClosure := false }).driven.entry m
          = if m = n then { (s.entry n).silence with liveAtClosure := false } else s.entry m :=
        s.entry_onEntry n m _
      refine ⟨?_, ?_, ?_, fun m hm => (hentry m).trans (if_neg hm), rfl⟩ <;> rw [hentry n, if_pos rfl] <;> rfl
  · refine ⟨s.endConflict.driven, ?_, rfl⟩
    rw [exec, execConflictClear, answer_eq]
    exact congrArg (fun t : State => Host.Outcome.next t.driven) (if_pos (by
      simpa [hrun, hconflict, Config.sampleRate] using hfree))

end Sys2Proof.Machine
end

section
/-! PROOFS. ARRIVAL of an accepted frame: the own number heard (R61, R138), and what the roster, the clock and the
assembler make of a peer's frame (R49, R57, R58, R64, R75 to R79). -/

namespace Sys2Proof.Machine

/-! ### The own number (R61) -/

theorem PathState.good_iff (p : PathState) : p.good = true ↔ p ≠ .down ∧ p ≠ .failed := by cases p <;> decide

theorem State.pathGood_iff (s : State) (p : Path) : s.pathGood p = true ↔
    (s.link.paths.get p).state ≠ .down ∧ (s.link.paths.get p).state ≠ .failed := PathState.good_iff _

/-- A frame with the own number that passes steps 1 to 4 is heard on an UP or DEGRADED path. -/
theorem State.judgeFrame_own (s : State) (p : Path) {bytes : List Byte} {f : Frame} (h : frameGood bytes false = true)
    (h1 : s.schemeFrame bytes = true) (h2 : parseFrame bytes = some f) (h3 : s.inMask f.sender = true)
    (h4 : s.isOwn f.sender = true) : s.judgeFrame p bytes false = if s.pathGood p then s.hearOwn else s := by
  simp [State.judgeFrame, h, h1, h2, State.judgeSender, h3, State.judgeOwn, h4]

/-- CONFLICT blocks every slot, and what is blocked is not in OPERATE. -/
theorem Diff.addConflict_blocks (d : Diff) (h : d.BlockSafe) :
    (∀ g, d.addConflict.blocked (d.addConflict.groups.get g) = true
        ∧ (d.addConflict.groups.get g).operate = false)
      ∧ d.addConflict.blocked d.addConflict.check = true ∧ d.addConflict.check.operate = false := by
  obtain ⟨hgroups, hcheck⟩ := d.addConflict_keeps.block h
  have hblocked (t : Slot) : d.addConflict.blocked t = true := by
    simp [Diff.blocked, Diff.unitWide, Diff.addConflict, Diff.reblock]
  exact ⟨fun g => ⟨hblocked _, hgroups g (hblocked _)⟩, hblocked _, hcheck (hblocked _)⟩

/-- Settles O25. -/
theorem ownNumberHeard : Obligations.OwnNumberHeard := by
  unfold Obligations.OwnNumberHeard
  intro s p bytes f hstep hrun hup hgood hscheme hparse hmask hown
  have hexec := exec_arrival s p bytes false hstep hrun hup
  rw [s.judgeFrame_own p hgood hscheme hparse hmask hown] at hexec
  refine ⟨fun hfailed => ?_, fun hnotFailed hconflict hsafe => ?_⟩
  · have hnotGood : ¬s.pathGood p = true := fun h => ((s.pathGood_iff p).1 h).2 hfailed
    rw [if_neg hnotGood] at hexec
    exact ⟨s.driven, hexec, s.onlyLink_driven, rfl⟩
  · rw [if_pos ((s.pathGood_iff p).2 ⟨hup, hnotFailed⟩)] at hexec
    have hdiff : s.hearOwn.diff = s.diff.addConflict := by
      rw [State.hearOwn, hconflict]
      rfl
    obtain ⟨hgroups, hcheckBlocked, hcheck⟩ := s.diff.addConflict_blocks hsafe
    refine ⟨s.hearOwn.driven, hexec, rfl, rfl, s.hearOwn.alarmOut_iff.2 ⟨?_, .inr (.inr (.inl rfl))⟩, ?_, ?_, ?_,
      rfl, rfl, rfl, rfl, rfl, rfl⟩
    · exact (s.inRun_iff.1 hrun).2.1
    · refine Bool.eq_false_iff.2 fun h => ?_
      obtain ⟨-, -, -, -, hcheckFree, -⟩ := s.hearOwn.protReadyOut_iff.1 h
      rw [hdiff, hcheckBlocked] at hcheckFree
      exact absurd hcheckFree (by decide)
    · rw [State.driven_diff, hdiff]
      exact hgroups
    · rw [State.driven_diff, hdiff]
      exact hcheck

end Sys2Proof.Machine
end

section
/-! PROOFS. The Sample Clock Unit and the index authority: what a used frame leaves (R21, R22, R25, R27, R29), the work
of a closure (R21, R23, R25, R30 to R32), HOLDOVER_LIMIT and SYNC_LOSS. -/

namespace Sys2Proof.Machine

/-! ### Frames of the authority (R21, R25, R27, R29) -/

/-- What tracking leaves of the clock: all but the slew, the batch, the sync state and what its entry sets. -/
structure Clock.Tracks (c d : Clock) : Prop where
  codes : d.codes = c.codes
  authority : d.authority = c.authority
  tick : d.tick = c.tick
  index : d.index = c.index
  lastUsed : d.lastUsed = c.lastUsed
  lastMark : d.lastMark = c.lastMark
  lastAuth : d.sync = c.sync → d.lastAuth = c.lastAuth

/-- The slew batch after an error in ticks, and the slew (R27). -/
def Clock.BatchRule (c : Clock) (e : Int) (d : Clock) : Prop :=
  (480 < e.natAbs → d.sync = c.sync →
    d.batchSum = c.batchSum ∧ d.batchCount = c.batchCount ∧ d.slew = c.slew)
  ∧ (e.natAbs ≤ 480 → c.batchCount ≤ 22 →
    d.batchSum = c.batchSum + e ∧ d.batchCount = c.batchCount + 1 ∧ d.slew = c.slew)
  ∧ (e.natAbs ≤ 480 → 23 ≤ c.batchCount → d.batchSum = 0 ∧ d.batchCount = 0
    ∧ d.slew = if (c.batchSum + e).tdiv 24 = 0 then c.slew else max (-24) (min 24 ((c.batchSum + e).tdiv 24)))

section

variable (c : Clock)

/-- An error changes the batch and the slew alone, by the rule. -/
theorem Clock.batch_eq (e : Int) : ∃ sum count slew live,
    c.batch e = { c with batchSum := sum, batchCount := count, slew := slew, slewLive := live }
      ∧ c.BatchRule e { c with batchSum := sum, batchCount := count, slew := slew, slewLive := live } := by
  by_cases hfar : 480 < e.natAbs
  · refine ⟨c.batchSum, c.batchCount, c.slew, c.slewLive, if_pos hfar, fun _ _ => ⟨rfl, rfl, rfl⟩, fun h => ?_,
      fun h => ?_⟩ <;> exact absurd hfar (not_lt.2 h)
  · by_cases hcount : 24 ≤ c.batchCount + 1
    · have hmean : clampTo 24 ((c.batchSum + e).tdiv 24) = 0 ↔ (c.batchSum + e).tdiv 24 = 0 := by
        rw [clampTo]
        omega
      have hbatch : c.batch e = (if clampTo 24 ((c.batchSum + e).tdiv 24) = 0
          then ({ c with batchSum := c.batchSum + e, batchCount := c.batchCount + 1 } : Clock)
          else Clock.setSlew { c with batchSum := c.batchSum + e, batchCount := c.batchCount + 1 }
            (clampTo 24 ((c.batchSum + e).tdiv 24))).clearBatch := (if_neg hfar).trans (if_pos hcount)
      by_cases hzero : (c.batchSum + e).tdiv 24 = 0
      · rw [if_pos (hmean.2 hzero)] at hbatch
        refine ⟨0, 0, c.slew, c.slewLive, hbatch, fun h => absurd h hfar, fun _ h => by omega, fun _ _ => ?_⟩
        exact ⟨rfl, rfl, (if_pos hzero).symm⟩
      · rw [if_neg (mt hmean.1 hzero)] at hbatch
        refine ⟨0, 0, _, false, hbatch, fun h => absurd h hfar, fun _ h => by omega, fun _ _ => ?_⟩
        exact ⟨rfl, rfl, (if_neg hzero).symm⟩
    · refine ⟨c.batchSum + e, c.batchCount + 1, c.slew, c.slewLive, (if_neg hfar).trans (if_neg hcount),
        fun h => absurd h hfar, fun _ _ => ⟨rfl, rfl, rfl⟩, fun _ h => by omega⟩

/-- A frame measured in ACQUIRING (R25): the lock progress and, at 24, LOCKED-PEER. -/
theorem Clock.peerAcquire_cases (e : Int) (hsync : c.sync = .acquiring) : c.Tracks (c.peerAcquire e)
    ∧ c.BatchRule e (c.peerAcquire e)
    ∧ (e.natAbs ≤ 48 → (c.peerAcquire e).lockProgress = c.lockProgress + 1
      ∧ (c.peerAcquire e).sync = if 23 ≤ c.lockProgress then .lockedPeer else .acquiring)
    ∧ (48 < e.natAbs → (c.peerAcquire e).lockProgress = 0 ∧ (c.peerAcquire e).sync = .acquiring) := by
  obtain ⟨sum, count, slew, live, hbatch, hout, hrest⟩ := c.batch_eq e
  by_cases hnear : e.natAbs ≤ 48
  · by_cases hlock : 24 ≤ c.lockProgress + 1
    · have hacquire : c.peerAcquire e = Clock.enter { c with
          batchSum := sum, batchCount := count, slew := slew, slewLive := live
          lockProgress := c.lockProgress + 1 } .lockedPeer := by
        rw [Clock.peerAcquire, hbatch]
        exact (if_pos hnear).trans (if_pos hlock)
      rw [hacquire, if_pos (by omega)]
      exact ⟨⟨rfl, rfl, rfl, rfl, rfl, rfl, fun _ => rfl⟩, ⟨fun h => by omega, hrest⟩, fun _ => ⟨rfl, rfl⟩,
        fun h => by omega⟩
    · have hacquire : c.peerAcquire e = { c with
          batchSum := sum, batchCount := count, slew := slew, slewLive := live
          lockProgress := c.lockProgress + 1 } := by
        rw [Clock.peerAcquire, hbatch]
        exact (if_pos hnear).trans (if_neg hlock)
      rw [hacquire, if_neg (by omega)]
      exact ⟨⟨rfl, rfl, rfl, rfl, rfl, rfl, fun _ => rfl⟩, ⟨hout, hrest⟩, fun _ => ⟨rfl, hsync⟩, fun h => by omega⟩
  · have hacquire : c.peerAcquire e = { c with
        batchSum := sum, batchCount := count, slew := slew, slewLive := live, lockProgress := 0 } := by
      rw [Clock.peerAcquire, hbatch]
      exact if_neg hnear
    rw [hacquire]
    exact ⟨⟨rfl, rfl, rfl, rfl, rfl, rfl, fun _ => rfl⟩, ⟨hout, hrest⟩, fun h => absurd h hnear, fun _ => ⟨rfl, hsync⟩⟩

/-- A frame measured in LOCKED-PEER (R27, R29): the batch, and the excursion run, which at 3 leads to ACQUIRING. -/
theorem Clock.peerLocked_cases (e : Int) (hsync : c.sync = .lockedPeer) :
    c.Tracks ((c.batch e).excursionRule 3 e) ∧ c.BatchRule e ((c.batch e).excursionRule 3 e)
    ∧ (e.natAbs ≤ 480 → ((c.batch e).excursionRule 3 e).excursion = 0
        ∧ ((c.batch e).excursionRule 3 e).sync = .lockedPeer)
    ∧ (480 < e.natAbs → c.excursion ≤ 1 → ((c.batch e).excursionRule 3 e).excursion = c.excursion + 1
        ∧ ((c.batch e).excursionRule 3 e).sync = .lockedPeer)
    ∧ (480 < e.natAbs → 2 ≤ c.excursion → ((c.batch e).excursionRule 3 e).sync = .acquiring
        ∧ ((c.batch e).excursionRule 3 e).stepPending = true) := by
  obtain ⟨sum, count, slew, live, hbatch, hout, hrest⟩ := c.batch_eq e
  obtain ⟨hin, hfew, hthird⟩ := Clock.excursionRule_cases
    { c with batchSum := sum, batchCount := count, slew := slew, slewLive := live } 3 e
  have hne : SyncState.acquiring ≠ .lockedPeer := by decide
  rw [hbatch]
  by_cases hfar : 480 < e.natAbs
  · by_cases htwo : 2 ≤ c.excursion
    · rw [hthird hfar (by dsimp only; omega)]
      refine ⟨⟨rfl, rfl, rfl, rfl, rfl, rfl, fun h => ?_⟩, ⟨fun _ h => ?_, fun h => by omega, fun h => by omega⟩,
        fun h => by omega, fun _ h => by omega, fun _ _ => ⟨rfl, rfl⟩⟩ <;>
        exact (hne (h.trans hsync)).elim
    · rw [hfew hfar (by dsimp only; omega)]
      exact ⟨⟨rfl, rfl, rfl, rfl, rfl, rfl, fun _ => rfl⟩, ⟨hout, hrest⟩, fun h => by omega, fun _ _ => ⟨rfl, hsync⟩,
        fun _ h => absurd h htwo⟩
  · rw [hin (not_lt.1 hfar)]
    exact ⟨⟨rfl, rfl, rfl, rfl, rfl, rfl, fun _ => rfl⟩, ⟨hout, hrest⟩, fun _ => ⟨rfl, hsync⟩,
      fun h => absurd h hfar, fun h => absurd h hfar⟩

/-- Tracking by the sync state. -/
theorem Clock.trackPeer_cases (k tlink : Nat) :
    (c.sync = .acquiring → c.stepPending = true →
      c.trackPeer k tlink = { c with stepDue := some ⟨k, tickAdd c.tick (-(tlink : Int))⟩ })
    ∧ (c.sync = .acquiring → c.stepPending = false →
      c.trackPeer k tlink = ((c.peerError k tlink).map c.peerAcquire).getD c)
    ∧ (c.sync = .lockedPeer →
      c.trackPeer k tlink = ((c.peerError k tlink).map fun e => (c.batch e).excursionRule 3 e).getD c)
    ∧ (c.sync ≠ .acquiring → c.sync ≠ .lockedPeer → c.trackPeer k tlink = c) := by
  refine ⟨fun hsync hpending => ?_, fun hsync hpending => ?_, fun hsync => ?_, fun hacquiring hlocked => ?_⟩
  · simp [Clock.trackPeer, hsync, hpending]
  · simp only [Clock.trackPeer, hsync, hpending, Bool.false_eq_true, if_false]
    cases c.peerError k tlink <;> rfl
  · simp only [Clock.trackPeer, hsync]
    cases c.peerError k tlink <;> rfl
  · cases hsync : c.sync <;> simp_all [Clock.trackPeer]

/-- Tracking leaves the rest of the clock. -/
theorem Clock.trackPeer_tracks (k tlink : Nat) : c.Tracks (c.trackPeer k tlink) := by
  have hsame : c.Tracks c := ⟨rfl, rfl, rfl, rfl, rfl, rfl, fun _ => rfl⟩
  obtain ⟨hstep, hacquire, hlocked, hother⟩ := c.trackPeer_cases k tlink
  by_cases hsync : c.sync = .acquiring
  · cases hpending : c.stepPending
    · rw [hacquire hsync hpending]
      cases c.peerError k tlink with
      | none => exact hsame
      | some e => exact (c.peerAcquire_cases e hsync).1
    · rw [hstep hsync hpending]
      exact ⟨rfl, rfl, rfl, rfl, rfl, rfl, fun _ => rfl⟩
  · by_cases hpeer : c.sync = .lockedPeer
    · rw [hlocked hpeer]
      cases c.peerError k tlink with
      | none => exact hsame
      | some e => exact (c.peerLocked_cases e hpeer).1
    · rw [hother hsync hpeer]
      exact hsame

/-- A frame of the authority is used when it is a SAMPLE frame newer than the last one used (R21). -/
theorem Clock.uses_iff (f : Frame) : c.uses f = true ↔ (∃ v cl l b, f.body = .sample v cl l b)
    ∧ c.authority = .peer f.sender
    ∧ ∀ k, c.lastAuth = some k → 1 ≤ ahead f.index k ∧ ahead f.index k < 24000 := by
  have hsample : f.body.isSample = true ↔ ∃ v cl l b, f.body = .sample v cl l b := by
    cases f.body <;> simp [Body.isSample]
  rw [← hsample, Clock.uses]
  cases c.lastAuth <;> simp [newer, Config.indexHalf, and_assoc]

end

/-- What a second mark leaves of a tracked clock. -/
structure Clock.Marks (c d : Clock) : Prop where
  sync : d.sync = c.sync
  slew : d.slew = c.slew
  stepDue : d.stepDue = c.stepDue
  stepPending : d.stepPending = c.stepPending
  lastAuth : d.lastAuth = c.lastAuth
  lockProgress : d.lockProgress = c.lockProgress
  excursion : d.excursion = c.excursion
  batchSum : d.batchSum = c.batchSum
  batchCount : d.batchCount = c.batchCount
  codes : d.codes = c.codes
  authority : d.authority = c.authority
  tick : d.tick = c.tick
  index : d.index = c.index
  lastUsed : d.lastUsed = c.lastUsed

/-- The clock with the frame that it uses. -/
def Clock.noteUsed (c : Clock) (f : Frame) : Clock :=
  { c with lastAuth := some f.index, lastUsed := some ⟨f.index, c.tick⟩ }

section

variable (c : Clock) (f : Frame) (tlink m : Nat)

theorem Clock.use_pps : c.use f true tlink m = c.noteUsed f := rfl

/-- A used frame in mode PEER: the tracking, and a second mark when its index is a second's. -/
theorem Clock.use_peer : Clock.Marks ((c.noteUsed f).trackPeer f.index tlink) (c.use f false tlink m)
    ∧ (f.index % 2400 = 0 → (c.use f false tlink m).lastMark = some ⟨c.tick, some f.index⟩)
    ∧ (f.index % 2400 ≠ 0 → (c.use f false tlink m).lastMark = c.lastMark) := by
  have htracks := (c.noteUsed f).trackPeer_tracks f.index tlink
  by_cases hmark : f.index % 2400 = 0
  · have huse : c.use f false tlink m = ((c.noteUsed f).trackPeer f.index tlink).secondMark m (some f.index) :=
      if_pos hmark
    obtain ⟨drift, trim, lastDrift, rejects, hsecond⟩ :=
      ((c.noteUsed f).trackPeer f.index tlink).secondMark_eq m (some f.index)
    rw [huse, hsecond]
    refine ⟨⟨rfl, rfl, rfl, rfl, rfl, rfl, rfl, rfl, rfl, rfl, rfl, rfl, rfl, rfl⟩, fun _ => ?_,
      fun h => absurd hmark h⟩
    dsimp only
    rw [htracks.tick]
    rfl
  · have huse : c.use f false tlink m = (c.noteUsed f).trackPeer f.index tlink := if_neg hmark
    rw [huse]
    exact ⟨⟨rfl, rfl, rfl, rfl, rfl, rfl, rfl, rfl, rfl, rfl, rfl, rfl, rfl, rfl⟩, fun h => absurd h hmark,
      fun _ => htracks.lastMark⟩

/-- A used frame leaves the codes, the authority, the tick and the index. -/
theorem Clock.use_keeps (pps : Bool) : (c.use f pps tlink m).codes = c.codes
    ∧ (c.use f pps tlink m).authority = c.authority ∧ (c.use f pps tlink m).tick = c.tick
    ∧ (c.use f pps tlink m).index = c.index ∧ (c.use f pps tlink m).lastUsed = some ⟨f.index, c.tick⟩ := by
  cases pps
  · obtain ⟨hmarks, -⟩ := c.use_peer f tlink m
    have htracks := (c.noteUsed f).trackPeer_tracks f.index tlink
    exact ⟨hmarks.codes.trans htracks.codes, hmarks.authority.trans htracks.authority,
      hmarks.tick.trans htracks.tick, hmarks.index.trans htracks.index, hmarks.lastUsed.trans htracks.lastUsed⟩
  · exact ⟨rfl, rfl, rfl, rfl, rfl⟩

end

/-- The clock with the code of an accepted frame (R21). -/
def Clock.takeCode (c : Clock) (f : Frame) : Clock := { c with codes := c.codes.set f.sender f.sync }

/-- The clock takes an accepted frame in RUN: the code, and the frame when it is used. -/
theorem State.clockTake_run (s : State) (f : Frame) (h : s.ctl.mode = .run) : s.clockTake f = { s with
    clock := if (s.clock.takeCode f).uses f then (s.clock.takeCode f).use f s.syncPps s.tlink s.marksM
      else s.clock.takeCode f } := if_pos h

/-- The clock alone changes, and holds the code of the sender. -/
theorem State.clockTake_clock (s : State) (f : Frame) (h : s.ctl.mode = .run) :
    s.clockTake f = { s with clock := (s.clockTake f).clock }
      ∧ (s.clockTake f).clock.codes = s.clock.codes.set f.sender f.sync
      ∧ (s.clockTake f).clock.authority = s.clock.authority ∧ (s.clockTake f).clock.tick = s.clock.tick
      ∧ (s.clockTake f).clock.index = s.clock.index := by
  rw [s.clockTake_run f h]
  refine ⟨rfl, ?_⟩
  dsimp only
  split_ifs
  · obtain ⟨hcodes, hauthority, htick, hindex, -⟩ := (s.clock.takeCode f).use_keeps f s.tlink s.marksM s.syncPps
    exact ⟨hcodes, hauthority, htick, hindex⟩
  · exact ⟨rfl, rfl, rfl, rfl⟩

/-! ### The index authority named at a closure (R21) -/

theorem Authority.isPeer_iff (a : Authority) : a.isPeer = true ↔ ∃ n, a = .peer n := by
  cases a <;> simp [Authority.isPeer]

theorem authorityCode_iff (pps : Bool) (x : SyncState) : authorityCode pps x = true ↔
    (pps = true → x = .lockedPps) ∧ (pps = false → x = .lockedPeer ∨ x = .lockedSelf) := by
  cases x <;> cases pps <;> decide

/-- The station is a candidate for the index authority (R21). -/
def State.Candidate (s : State) (n : Station) : Prop :=
  s.live n = true ∧ s.isOwn n = false ∧ n.num < s.ctl.strap
    ∧ (s.syncPps = true → s.clock.codes.get n = .lockedPps)
    ∧ (s.syncPps = false → s.clock.codes.get n = .lockedPeer ∨ s.clock.codes.get n = .lockedSelf)

section

variable (s : State)

theorem State.authorityPeer_eq_some_iff (n : Station) :
    s.authorityPeer = some n ↔ s.Candidate n ∧ ∀ m, m < n → ¬s.Candidate m := by
  have htest (m : Station) : (s.live m && !s.isOwn m && authorityCode s.syncPps (s.clock.codes.get m)
      && decide (m.num < s.ctl.strap)) = true ↔ s.Candidate m := by
    simp only [Bool.and_eq_true, Bool.not_eq_true', decide_eq_true_eq, authorityCode_iff, State.Candidate]
    tauto
  rw [State.authorityPeer, stations_find?_eq_some_iff, htest]
  simp only [← htest, Bool.not_eq_true]

theorem State.nameAuthority_eq_peer_iff (n : Station) :
    s.nameAuthority = .peer n ↔ s.Candidate n ∧ ∀ m, m < n → ¬s.Candidate m := by
  rw [← s.authorityPeer_eq_some_iff, State.nameAuthority]
  cases s.authorityPeer with
  | none =>
    dsimp only
    split_ifs <;> simp
  | some m => simp

theorem State.nameAuthority_of_none (h : ∀ n, ¬s.Candidate n) :
    s.nameAuthority = if s.clock.sync = .unlocked then .none else .self := by
  have hnone : s.authorityPeer = none :=
    Option.eq_none_iff_forall_ne_some.2 fun n hn => h n ((s.authorityPeer_eq_some_iff n).1 hn).1
  rw [State.nameAuthority, hnone]

/-- The authority that a closure names. -/
def State.named (s : State) : Authority := State.nameAuthority { s with clock := s.clockStart }

theorem State.clockStart_peer (h : s.syncPps = false) (h1 : s.clock.sync = .unlocked) :
    s.clockStart = s.clock.enter .acquiring := if_pos (by simp [h, h1])

theorem State.clockStart_other (h : s.syncPps = true ∨ s.clock.sync ≠ .unlocked) : s.clockStart = s.clock :=
  if_neg (by rcases h with h | h <;> simp [h])

/-- The codes and the authority are those before the closure. -/
theorem State.clockStart_keeps : s.clockStart.codes = s.clock.codes ∧ s.clockStart.authority = s.clock.authority := by
  unfold State.clockStart
  split_ifs
  · obtain ⟨-, -, -, -, -, -, -, -, -, -, -, -, -, hcodes, hauthority, -⟩ := s.clock.enter_fields .acquiring
    exact ⟨hcodes, hauthority⟩
  · exact ⟨rfl, rfl⟩

theorem State.candidate_clockStart (n : Station) :
    State.Candidate { s with clock := s.clockStart } n ↔ s.Candidate n := by
  have hcodes := s.clockStart_keeps.1
  show (s.live n = true ∧ s.isOwn n = false ∧ n.num < s.ctl.strap
    ∧ (s.syncPps = true → s.clockStart.codes.get n = .lockedPps)
    ∧ (s.syncPps = false → s.clockStart.codes.get n = .lockedPeer ∨ s.clockStart.codes.get n = .lockedSelf)) ↔ _
  rw [hcodes]
  rfl

theorem State.named_eq_peer_iff (n : Station) :
    s.named = .peer n ↔ s.Candidate n ∧ ∀ m, m < n → ¬s.Candidate m := by
  simp only [State.named, State.nameAuthority_eq_peer_iff, State.candidate_clockStart]

theorem State.named_of_none (h : ∀ n, ¬s.Candidate n) :
    s.named = if s.clock.sync = .unlocked ∧ s.syncPps = true then .none else .self := by
  have hnamed : s.named = if s.clockStart.sync = .unlocked then .none else .self :=
    State.nameAuthority_of_none _ fun n hn => h n ((s.candidate_clockStart n).1 hn)
  rw [hnamed]
  cases hpps : s.syncPps
  · by_cases hsync : s.clock.sync = .unlocked
    · rw [s.clockStart_peer hpps hsync]
      simp [Clock.enter_fields]
    · rw [s.clockStart_other (.inr hsync)]
      simp [hsync]
  · rw [s.clockStart_other (.inl hpps)]
    simp

end

/-! ### What the naming changes (R21, R25, R30, R33) -/

/-- What the naming of the authority leaves and sets, from the clock `c` of the start of the closure. -/
structure Clock.Names (c : Clock) (a : Authority) (pps : Bool) (d : Clock) : Prop where
  sync : d.sync = c.sync
  slew : d.slew = c.slew
  authority : d.authority = a
  elapsed : d.acquiringElapsed = c.acquiringElapsed
  misfit : d.misfit = if a = c.authority then c.misfit else 0
  lastAuth : a ≠ c.authority → d.lastAuth = none
  drift : a ≠ c.authority → pps = false → d.drift = .idle
  pending : c.stepPending = true → d.stepPending = true
  restart : a ≠ c.authority → pps = false → c.sync = .acquiring →
    d.stepPending = true ∧ d.lockProgress = 0 ∧ d.batchSum = 0 ∧ d.batchCount = 0

theorem Clock.changeAuthority_names (c : Clock) {a : Authority} (pps : Bool) (h : a ≠ c.authority) :
    c.Names a pps (c.changeAuthority a pps) := by
  cases pps
  · by_cases hsync : c.sync = .acquiring
    · have hchange : c.changeAuthority a false = { ({ c with
          authority := a, lastAuth := none, lastUsed := none, misfit := 0, drift := .idle } : Clock).clearBatch with
          stepPending := true, stepDue := none, lockProgress := 0 } := if_pos hsync
      rw [hchange]
      exact ⟨rfl, rfl, rfl, rfl, (if_neg h).symm, fun _ => rfl, fun _ _ => rfl, fun _ => rfl,
        fun _ _ _ => ⟨rfl, rfl, rfl, rfl⟩⟩
    · have hchange : c.changeAuthority a false = { c with
          authority := a, lastAuth := none, lastUsed := none, misfit := 0, drift := .idle } := if_neg hsync
      rw [hchange]
      exact ⟨rfl, rfl, rfl, rfl, (if_neg h).symm, fun _ => rfl, fun _ _ => rfl, id, fun _ _ h => absurd h hsync⟩
  · exact ⟨rfl, rfl, rfl, rfl, (if_neg h).symm, fun _ => rfl, fun _ h => absurd h (by decide), id,
      fun _ h => absurd h (by decide)⟩

theorem State.clockNamed_names (s : State) : s.clockStart.Names s.named s.syncPps s.clockNamed := by
  by_cases h : s.named = s.clockStart.authority
  · rw [show s.clockNamed = s.clockStart from if_pos h]
    exact ⟨rfl, rfl, h.symm, rfl, (if_pos h).symm, fun hne => absurd h hne, fun hne => absurd h hne, id,
      fun hne => absurd h hne⟩
  · rw [show s.clockNamed = s.clockStart.changeAuthority s.named s.syncPps from if_neg h]
    exact s.clockStart.changeAuthority_names s.syncPps h

/-! ### The misfit run (R30) -/

section

variable (c : Clock) (fit misfit : Bool)

/-- The misfit run counts in LOCKED-PEER, and in LOCKED-PPS under a peer (R30). -/
def Clock.countsMisfit (c : Clock) : Prop :=
  c.sync = .lockedPeer ∨ (c.sync = .lockedPps ∧ ∃ n, c.authority = .peer n)

theorem Clock.misfitRule_other (h : ¬c.countsMisfit) : c.misfitRule fit misfit = c := by
  simp only [Clock.countsMisfit, ← Authority.isPeer_iff] at h
  exact if_neg h

theorem Clock.misfitRule_leaves (h : c.countsMisfit) (hleaves : fit = false ∧ misfit = true ∧ 23 ≤ c.misfit) :
    c.misfitRule fit misfit = ({ c with misfit := c.misfit + 1 } : Clock).enter .acquiring := by
  obtain ⟨rfl, rfl, hrun⟩ := hleaves
  simp only [Clock.countsMisfit, ← Authority.isPeer_iff] at h
  rw [Clock.misfitRule, if_pos h]
  simp only [Bool.false_eq_true, if_false, if_true]
  exact if_pos (show 24 ≤ c.misfit + 1 by omega)

theorem Clock.misfitRule_counts (h : c.countsMisfit) (hleaves : ¬(fit = false ∧ misfit = true ∧ 23 ≤ c.misfit)) :
    c.misfitRule fit misfit
      = { c with misfit := if fit then 0 else if misfit then c.misfit + 1 else c.misfit } := by
  simp only [Clock.countsMisfit, ← Authority.isPeer_iff] at h
  rw [Clock.misfitRule, if_pos h]
  cases fit
  · cases misfit
    · rfl
    · simp only [Bool.false_eq_true, if_false, if_true]
      exact if_neg (show ¬24 ≤ c.misfit + 1 from fun h => hleaves ⟨rfl, rfl, by omega⟩)
  · rfl

/-- What is kept on an entry to a sync state: a cleared last authority index, an idle drift measurement, the
authority. -/
theorem Clock.enter_keeps (n : SyncState) : (c.enter n).authority = c.authority
    ∧ (c.lastAuth = none → (c.enter n).lastAuth = none) ∧ (c.drift = .idle → (c.enter n).drift = .idle) := by
  cases n <;>
    simp [Clock.enter, Clock.entrySets, SyncState.acceptable, SyncState.drifts, Clock.clearSlew, Clock.clearBatch]

theorem Clock.misfitRule_keeps : (c.misfitRule fit misfit).authority = c.authority
    ∧ (c.lastAuth = none → (c.misfitRule fit misfit).lastAuth = none)
    ∧ (c.drift = .idle → (c.misfitRule fit misfit).drift = .idle) := by
  by_cases hcounts : c.countsMisfit
  · by_cases hleaves : fit = false ∧ misfit = true ∧ 23 ≤ c.misfit
    · rw [c.misfitRule_leaves fit misfit hcounts hleaves]
      exact Clock.enter_keeps { c with misfit := c.misfit + 1 } .acquiring
    · rw [c.misfitRule_counts fit misfit hcounts hleaves]
      exact ⟨rfl, id, id⟩
  · rw [c.misfitRule_other fit misfit hcounts]
    exact ⟨rfl, id, id⟩

/-! ### The checks in mode PEER (R25, R31, R32) -/

variable (old : Authority) (lowest : Bool)

theorem Clock.peerChecks_lockedPeer (h : c.sync = .lockedPeer) :
    ((¬∃ n, c.authority = .peer n) → c.peerChecks old lowest = c.enter .holdover)
      ∧ ((∃ n, c.authority = .peer n) → c.authority = old → c.peerChecks old lowest = c)
      ∧ ((∃ n, c.authority = .peer n) → c.authority ≠ old →
        c.peerChecks old lowest = { c.clearBatch with excursion := 0, misfit := 0 }) := by
  simp only [← Authority.isPeer_iff]
  refine ⟨fun hpeer => ?_, fun hpeer hsame => ?_, fun hpeer hchanged => ?_⟩
  · simp [Clock.peerChecks, h, hpeer]
  · simp [Clock.peerChecks, h, ← hsame, hpeer]
  · simp [Clock.peerChecks, h, hpeer, hchanged]

theorem Clock.peerChecks_selfOrHoldover (h : c.sync = .lockedSelf ∨ c.sync = .holdover) :
    ((∃ n, c.authority = .peer n) → c.peerChecks old lowest = c.enter .acquiring)
      ∧ ((¬∃ n, c.authority = .peer n) → c.peerChecks old lowest = c) := by
  simp only [← Authority.isPeer_iff]
  rcases h with h | h <;>
    exact ⟨fun hpeer => by simp [Clock.peerChecks, h, hpeer], fun hpeer => by simp [Clock.peerChecks, h, hpeer]⟩

theorem Clock.peerChecks_acquiring (h : c.sync = .acquiring) :
    (2400 ≤ c.acquiringElapsed ∧ c.authority = .self ∧ lowest = true → c.peerChecks old lowest = c.enter .lockedSelf)
      ∧ (¬(2400 ≤ c.acquiringElapsed ∧ c.authority = .self ∧ lowest = true) → c.peerChecks old lowest = c) := by
  rw [Clock.peerChecks, h]
  exact ⟨fun hself => if_pos hself, fun hself => if_neg hself⟩

theorem Clock.peerChecks_other (h : c.sync = .unlocked ∨ c.sync = .lockedPps) : c.peerChecks old lowest = c := by
  rcases h with h | h <;> simp [Clock.peerChecks, h]

theorem Clock.peerChecks_keeps : (c.peerChecks old lowest).authority = c.authority
    ∧ (c.lastAuth = none → (c.peerChecks old lowest).lastAuth = none)
    ∧ (c.drift = .idle → (c.peerChecks old lowest).drift = .idle) := by
  cases hsync : c.sync
  case unlocked => exact (c.peerChecks_other old lowest (.inl hsync)).symm ▸ ⟨rfl, id, id⟩
  case lockedPps => exact (c.peerChecks_other old lowest (.inr hsync)).symm ▸ ⟨rfl, id, id⟩
  case acquiring =>
    obtain ⟨hself, hnot⟩ := c.peerChecks_acquiring old lowest hsync
    by_cases h : 2400 ≤ c.acquiringElapsed ∧ c.authority = .self ∧ lowest = true
    · exact (hself h).symm ▸ c.enter_keeps _
    · exact (hnot h).symm ▸ ⟨rfl, id, id⟩
  case lockedPeer =>
    obtain ⟨hlost, hsame, hchanged⟩ := c.peerChecks_lockedPeer old lowest hsync
    by_cases hpeer : ∃ n, c.authority = .peer n
    · by_cases h : c.authority = old
      · exact (hsame hpeer h).symm ▸ ⟨rfl, id, id⟩
      · exact (hchanged hpeer h).symm ▸ ⟨rfl, id, id⟩
    · exact (hlost hpeer).symm ▸ c.enter_keeps _
  case lockedSelf | holdover =>
    obtain ⟨hfound, hnone⟩ := c.peerChecks_selfOrHoldover old lowest (by simp [hsync])
    by_cases hpeer : ∃ n, c.authority = .peer n
    · exact (hfound hpeer).symm ▸ c.enter_keeps _
    · exact (hnone hpeer).symm ▸ ⟨rfl, id, id⟩

end

/-! ### The sync state at a closure (R21, R23, R25, R30 to R32) -/

section

variable (s : State) (fit misfit : Bool)

theorem State.lowestHeard_iff : s.lowestHeard = true ↔ ∀ n, s.isOwn n = false → n.num < s.ctl.strap →
    (s.entry n).state ≠ .live ∧ (s.entry n).state ≠ .joining := by
  simp only [State.lowestHeard, List.all_eq_true, mem_stations, true_implies]
  refine forall_congr' fun n => ?_
  by_cases hnum : n.num < s.ctl.strap
  · cases s.isOwn n <;> simp [hnum]
  · simp [hnum, not_lt.1 hnum]

/-- The clock after a closure in mode PPS. -/
theorem State.clockClosure_pps (hrun : s.ctl.mode = .run) (hpps : s.syncPps = true) :
    (s.clockClosure fit misfit).clock = s.clockNamed.misfitRule fit misfit := by
  rw [s.clockClosure_run hrun, hpps]
  rfl

/-- The clock after a closure in mode PEER. -/
theorem State.clockClosure_peer (hrun : s.ctl.mode = .run) (hpps : s.syncPps = false) :
    (s.clockClosure fit misfit).clock
      = (s.clockNamed.misfitRule fit misfit).peerChecks s.clock.authority s.lowestHeard := by
  rw [s.clockClosure_run hrun, hpps, s.clockStart_keeps.2]
  rfl

/-- The authority after a closure is the one it names. -/
theorem State.clockClosure_authority (hrun : s.ctl.mode = .run) :
    (s.clockClosure fit misfit).clock.authority = s.named := by
  obtain ⟨hmisfit, -⟩ := s.clockNamed.misfitRule_keeps fit misfit
  cases hpps : s.syncPps
  · rw [s.clockClosure_peer fit misfit hrun hpps, (Clock.peerChecks_keeps _ _ _).1, hmisfit,
      s.clockNamed_names.authority]
  · rw [s.clockClosure_pps fit misfit hrun hpps, hmisfit, s.clockNamed_names.authority]

/-- A change of authority leaves no last authority index, and in mode PEER no drift measurement. -/
theorem State.clockClosure_changed (hrun : s.ctl.mode = .run) (hchanged : s.named ≠ s.clock.authority) :
    (s.clockClosure fit misfit).clock.lastAuth = none
      ∧ (s.syncPps = false → (s.clockClosure fit misfit).clock.drift = .idle) := by
  rw [← s.clockStart_keeps.2] at hchanged
  have hlast := s.clockNamed_names.lastAuth hchanged
  have hdrift := s.clockNamed_names.drift hchanged
  obtain ⟨-, hmisfitLast, hmisfitDrift⟩ := s.clockNamed.misfitRule_keeps fit misfit
  cases hpps : s.syncPps
  · rw [s.clockClosure_peer fit misfit hrun hpps]
    obtain ⟨-, hcheckLast, hcheckDrift⟩ := (s.clockNamed.misfitRule fit misfit).peerChecks_keeps s.clock.authority
      s.lowestHeard
    exact ⟨hcheckLast (hmisfitLast hlast), fun _ => hcheckDrift (hmisfitDrift (hdrift hpps))⟩
  · rw [s.clockClosure_pps fit misfit hrun hpps]
    exact ⟨hmisfitLast hlast, fun h => absurd h (by decide)⟩

/-- UNLOCKED in mode PEER passes to ACQUIRING (R25). -/
theorem State.clockClosure_unlocked (hrun : s.ctl.mode = .run) (hpps : s.syncPps = false)
    (hsync : s.clock.sync = .unlocked) : (s.clockClosure fit misfit).clock.sync = .acquiring
      ∧ (s.clockClosure fit misfit).clock.stepPending = true ∧ (s.clockClosure fit misfit).clock.slew = 0 := by
  have hnames := s.clockNamed_names
  rw [s.clockStart_peer hpps hsync] at hnames
  have hacquiring : s.clockNamed.sync = .acquiring := hnames.sync
  have helapsed : s.clockNamed.acquiringElapsed = 0 := hnames.elapsed
  rw [s.clockClosure_peer fit misfit hrun hpps, Clock.misfitRule_other _ _ _ (by simp [Clock.countsMisfit, hacquiring]),
    ((Clock.peerChecks_acquiring _ _ _ hacquiring).2 (by omega))]
  exact ⟨hacquiring, hnames.pending rfl, hnames.slew⟩

/-- The names of the authority from a clock that the start of the closure leaves. -/
theorem State.clockNamed_names_of (h : s.syncPps = true ∨ s.clock.sync ≠ .unlocked) :
    s.clock.Names s.named s.syncPps s.clockNamed := by
  have hnames := s.clockNamed_names
  rwa [s.clockStart_other h] at hnames

/-- The misfit run counts after the naming as the statement says it of the clock before. -/
theorem State.clockNamed_countsMisfit (h : s.syncPps = true ∨ s.clock.sync ≠ .unlocked) :
    s.clockNamed.countsMisfit ↔ s.clock.sync = .lockedPeer ∨ (s.clock.sync = .lockedPps ∧ ∃ n, s.named = .peer n) := by
  rw [Clock.countsMisfit, (s.clockNamed_names_of h).sync, (s.clockNamed_names_of h).authority]

/-- A misfit run of 24 leads to ACQUIRING (R30). -/
theorem State.clockClosure_leaves (hrun : s.ctl.mode = .run) (hcounts : s.clockNamed.countsMisfit)
    (hleaves : fit = false ∧ misfit = true ∧ 23 ≤ s.clockNamed.misfit) :
    (s.clockClosure fit misfit).clock.sync = .acquiring ∧ (s.clockClosure fit misfit).clock.stepPending = true
      ∧ (s.clockClosure fit misfit).clock.misfit = 0 := by
  have hmisfit := s.clockNamed.misfitRule_leaves fit misfit hcounts hleaves
  cases hpps : s.syncPps
  · rw [s.clockClosure_peer fit misfit hrun hpps, hmisfit, ((Clock.peerChecks_acquiring _ _ _ rfl).2 ?_)]
    · exact ⟨rfl, rfl, rfl⟩
    · exact fun h => absurd h.1 (show ¬2400 ≤ 0 by decide)
  · rw [s.clockClosure_pps fit misfit hrun hpps, hmisfit]
    exact ⟨rfl, rfl, rfl⟩

/-- A closure that does not lead to ACQUIRING by the misfit run: the run alone is set. -/
theorem State.misfitRule_stays (hleaves : ¬(s.clockNamed.countsMisfit
      ∧ fit = false ∧ misfit = true ∧ 23 ≤ s.clockNamed.misfit)) :
    ∃ run, s.clockNamed.misfitRule fit misfit = { s.clockNamed with misfit := run }
      ∧ (s.clockNamed.countsMisfit →
          run = if fit then 0 else if misfit then s.clockNamed.misfit + 1 else s.clockNamed.misfit) := by
  by_cases hcounts : s.clockNamed.countsMisfit
  · exact ⟨_, s.clockNamed.misfitRule_counts fit misfit hcounts fun h => hleaves ⟨hcounts, h⟩, fun _ => rfl⟩
  · exact ⟨_, s.clockNamed.misfitRule_other fit misfit hcounts, fun h => absurd h hcounts⟩

/-- A closure that does not lead to ACQUIRING by the misfit run sets the run, or a new authority in mode PEER
restarts it (R30, R31). -/
theorem State.clockClosure_misfit (hrun : s.ctl.mode = .run) (hcounts : s.clockNamed.countsMisfit)
    (hstays : ¬(fit = false ∧ misfit = true ∧ 23 ≤ s.clockNamed.misfit)) :
    (s.clockClosure fit misfit).clock.misfit
        = (if fit then 0 else if misfit then s.clockNamed.misfit + 1 else s.clockNamed.misfit)
      ∨ (s.syncPps = false ∧ s.named ≠ s.clock.authority ∧ (s.clockClosure fit misfit).clock.misfit = 0) := by
  obtain ⟨run, hrule, hcount⟩ := s.misfitRule_stays fit misfit fun h => hstays h.2
  rw [← hcount hcounts]
  have hauthority := s.clockNamed_names.authority
  cases hpps : s.syncPps
  · rw [s.clockClosure_peer fit misfit hrun hpps, hrule]
    rcases hcounts with hsync | ⟨hsync, -⟩
    · obtain ⟨hlost, hsame, hchanged⟩ := Clock.peerChecks_lockedPeer { s.clockNamed with misfit := run }
        s.clock.authority s.lowestHeard hsync
      by_cases hpeer : ∃ n, s.clockNamed.authority = .peer n
      · by_cases h : s.clockNamed.authority = s.clock.authority
        · rw [hsame hpeer h]
          exact .inl rfl
        · rw [hchanged hpeer h]
          exact .inr ⟨rfl, by rwa [hauthority] at h, rfl⟩
      · rw [hlost hpeer]
        exact .inl rfl
    · rw [Clock.peerChecks_other { s.clockNamed with misfit := run } s.clock.authority s.lowestHeard (.inr hsync)]
      exact .inl rfl
  · rw [s.clockClosure_pps fit misfit hrun hpps, hrule]
    exact .inl rfl

/-- LOCKED-PEER in mode PEER follows the authority (R31, R32). -/
theorem State.clockClosure_lockedPeer (hrun : s.ctl.mode = .run) (hpps : s.syncPps = false)
    (hsync : s.clock.sync = .lockedPeer) (hstays : ¬(fit = false ∧ misfit = true ∧ 23 ≤ s.clockNamed.misfit)) :
    ((∃ n, s.named = .peer n) → (s.clockClosure fit misfit).clock.sync = .lockedPeer
        ∧ (s.clockClosure fit misfit).clock.slew = s.clock.slew
        ∧ (s.named ≠ s.clock.authority → (s.clockClosure fit misfit).clock.excursion = 0
            ∧ (s.clockClosure fit misfit).clock.misfit = 0 ∧ (s.clockClosure fit misfit).clock.batchSum = 0
            ∧ (s.clockClosure fit misfit).clock.batchCount = 0))
      ∧ ((¬∃ n, s.named = .peer n) → (s.clockClosure fit misfit).clock.sync = .holdover
        ∧ (s.clockClosure fit misfit).clock.slew = 0 ∧ (s.clockClosure fit misfit).clock.holdoverElapsed = 0) := by
  have hnames := s.clockNamed_names_of (.inr (by rw [hsync]; decide))
  obtain ⟨run, hrule, -⟩ := s.misfitRule_stays fit misfit fun h => hstays h.2
  obtain ⟨hlost, hsame, hchanged⟩ := Clock.peerChecks_lockedPeer { s.clockNamed with misfit := run }
    s.clock.authority s.lowestHeard (hnames.sync.trans hsync)
  rw [s.clockClosure_peer fit misfit hrun hpps, hrule, ← hnames.authority]
  refine ⟨fun hpeer => ?_, fun hpeer => ?_⟩
  · by_cases h : s.clockNamed.authority = s.clock.authority
    · rw [hsame hpeer h]
      exact ⟨hnames.sync.trans hsync, hnames.slew, fun hne => absurd h hne⟩
    · rw [hchanged hpeer h]
      exact ⟨hnames.sync.trans hsync, hnames.slew, fun _ => ⟨rfl, rfl, rfl, rfl⟩⟩
  · rw [hlost hpeer]
    exact ⟨rfl, rfl, rfl⟩

/-- In the states that count no misfit run, mode PEER, the checks alone follow the naming. -/
theorem State.clockClosure_uncounted (hrun : s.ctl.mode = .run) (hpps : s.syncPps = false)
    (hsync : s.clock.sync = .lockedSelf ∨ s.clock.sync = .holdover ∨ s.clock.sync = .acquiring) :
    (s.clockClosure fit misfit).clock = s.clockNamed.peerChecks s.clock.authority s.lowestHeard := by
  have hnames := s.clockNamed_names_of (.inr (by rcases hsync with h | h | h <;> rw [h] <;> decide))
  rw [s.clockClosure_peer fit misfit hrun hpps, Clock.misfitRule_other]
  rw [Clock.countsMisfit, hnames.sync]
  rcases hsync with h | h | h <;> simp [h]

/-- ACQUIRING in mode PEER (R25): LOCKED-SELF without a peer below, and a new start under a new authority. -/
theorem State.clockClosure_acquiring (hrun : s.ctl.mode = .run) (hpps : s.syncPps = false)
    (hsync : s.clock.sync = .acquiring) :
    ((s.clockClosure fit misfit).clock.sync = .lockedSelf ↔ 2400 ≤ s.clock.acquiringElapsed ∧ s.named = .self
        ∧ ∀ n, s.isOwn n = false → n.num < s.ctl.strap → (s.entry n).state ≠ .live ∧ (s.entry n).state ≠ .joining)
      ∧ ((s.clockClosure fit misfit).clock.sync = .lockedSelf ∨ (s.clockClosure fit misfit).clock.sync = .acquiring)
      ∧ (s.named ≠ s.clock.authority → (s.clockClosure fit misfit).clock.stepPending = true
        ∧ (s.clockClosure fit misfit).clock.lockProgress = 0 ∧ (s.clockClosure fit misfit).clock.batchSum = 0
        ∧ (s.clockClosure fit misfit).clock.batchCount = 0) := by
  have hnames := s.clockNamed_names_of (.inr (by rw [hsync]; decide))
  obtain ⟨hself, hstays⟩ := s.clockNamed.peerChecks_acquiring s.clock.authority s.lowestHeard
    (hnames.sync.trans hsync)
  rw [s.clockClosure_uncounted fit misfit hrun hpps (.inr (.inr hsync)), ← s.lowestHeard_iff, ← hnames.elapsed,
    ← hnames.authority]
  have hrestart := fun h : s.clockNamed.authority ≠ s.clock.authority =>
    hnames.restart (by rwa [← hnames.authority]) hpps hsync
  by_cases h : 2400 ≤ s.clockNamed.acquiringElapsed ∧ s.clockNamed.authority = .self ∧ s.lowestHeard = true
  · rw [hself h]
    exact ⟨⟨fun _ => h, fun _ => rfl⟩, .inl rfl, hrestart⟩
  · rw [hstays h, hnames.sync, hsync]
    exact ⟨⟨fun h => absurd h (by decide), fun h1 => absurd h1 h⟩, .inr rfl, hrestart⟩

end

/-- What a used frame does in mode PEER, by the sync state and its error (R22, R25, R27, R29). -/
theorem Clock.use_tracking (c : Clock) (f : Frame) (tlink m : Nat) :
    ((c.use f false tlink m).sync = c.sync → (c.use f false tlink m).lastAuth = some f.index)
    ∧ (f.index % 2400 = 0 → (c.use f false tlink m).lastMark = some ⟨c.tick, some f.index⟩)
    ∧ (f.index % 2400 ≠ 0 → (c.use f false tlink m).lastMark = c.lastMark)
    ∧ (c.sync = .acquiring → c.stepPending = true →
        (c.use f false tlink m).stepDue = some ⟨f.index, tickAdd c.tick (-(tlink : Int))⟩
          ∧ (c.use f false tlink m).sync = .acquiring)
    ∧ (c.sync = .unlocked ∨ c.sync = .lockedSelf ∨ c.sync = .holdover →
        (c.use f false tlink m).sync = c.sync ∧ (c.use f false tlink m).slew = c.slew)
    ∧ ∀ own, c.ownTick f.index = some own →
        let e := tickDiff c.tick (tickAdd own tlink)
        (c.sync = .acquiring → c.stepPending = false →
          (e.natAbs ≤ 48 → (c.use f false tlink m).lockProgress = c.lockProgress + 1
            ∧ (c.use f false tlink m).sync = if 23 ≤ c.lockProgress then .lockedPeer else .acquiring)
          ∧ (48 < e.natAbs → (c.use f false tlink m).lockProgress = 0 ∧ (c.use f false tlink m).sync = .acquiring))
        ∧ (c.sync = .lockedPeer →
          (e.natAbs ≤ 480 → (c.use f false tlink m).excursion = 0 ∧ (c.use f false tlink m).sync = .lockedPeer)
          ∧ (480 < e.natAbs → c.excursion ≤ 1 → (c.use f false tlink m).excursion = c.excursion + 1
              ∧ (c.use f false tlink m).sync = .lockedPeer)
          ∧ (480 < e.natAbs → 2 ≤ c.excursion → (c.use f false tlink m).sync = .acquiring
              ∧ (c.use f false tlink m).stepPending = true))
        ∧ ((c.sync = .acquiring ∧ c.stepPending = false) ∨ c.sync = .lockedPeer →
            c.BatchRule e (c.use f false tlink m)) := by
  obtain ⟨hmarks, hmark, hnoMark⟩ := c.use_peer f tlink m
  have htracks := (c.noteUsed f).trackPeer_tracks f.index tlink
  obtain ⟨hstep, hacquire, hlocked, hother⟩ := (c.noteUsed f).trackPeer_cases f.index tlink
  rw [hmarks.sync, hmarks.lastAuth, hmarks.stepDue, hmarks.slew, hmarks.lockProgress, hmarks.excursion,
    hmarks.stepPending]
  have hbatch (e : Int) (h : c.BatchRule e ((c.noteUsed f).trackPeer f.index tlink)) :
      c.BatchRule e (c.use f false tlink m) := by
    rwa [Clock.BatchRule, hmarks.sync, hmarks.slew, hmarks.batchSum, hmarks.batchCount]
  refine ⟨htracks.lastAuth, hmark, hnoMark, fun hsync hpending => ?_, fun hsync => ?_, fun own hown => ?_⟩
  · rw [hstep hsync hpending]
    exact ⟨rfl, hsync⟩
  · rw [hother (by rcases hsync with h | h | h <;> exact h.trans_ne (by decide))
      (by rcases hsync with h | h | h <;> exact h.trans_ne (by decide))]
    exact ⟨rfl, rfl⟩
  · have herror : (c.noteUsed f).peerError f.index tlink = some (tickDiff c.tick (tickAdd own tlink)) :=
      congrArg (Option.map _) hown
    rw [herror] at hacquire hlocked
    dsimp only
    refine ⟨fun hsync hpending => ?_, fun hsync => ?_, fun hsync => hbatch _ ?_⟩
    · obtain ⟨-, -, hnear, hfar⟩ := (c.noteUsed f).peerAcquire_cases (tickDiff c.tick (tickAdd own tlink)) hsync
      rw [hacquire hsync hpending]
      exact ⟨hnear, hfar⟩
    · obtain ⟨-, -, hcases⟩ := (c.noteUsed f).peerLocked_cases (tickDiff c.tick (tickAdd own tlink)) hsync
      rw [hlocked hsync]
      exact hcases
    · rcases hsync with ⟨hsync, hpending⟩ | hsync
      · obtain ⟨-, hrule, -⟩ := (c.noteUsed f).peerAcquire_cases (tickDiff c.tick (tickAdd own tlink)) hsync
        rw [hacquire hsync hpending]
        exact hrule
      · obtain ⟨-, hrule, -⟩ := (c.noteUsed f).peerLocked_cases (tickDiff c.tick (tickAdd own tlink)) hsync
        rw [hlocked hsync]
        exact hrule

/-- Settles O20, clause by clause from the naming, the misfit run and the checks of a closure, and from the tracking of
a used frame. -/
theorem clockLimits : Obligations.ClockLimits := by
  unfold Obligations.ClockLimits
  refine ⟨fun s hrun => ⟨fun hsync hlimit => ?_, fun hsync hlimit => ?_⟩, fun s fit misfit hrun => ?_,
    fun s f hrun => ?_⟩
  · have hclock : s.clock.limitHoldover s.holdoverLimit = s.clock.enter .unlocked := if_pos ⟨hsync, hlimit⟩
    obtain ⟨hunlocked, -, hindex, -, -, htrim, -⟩ := s.clock.enter_fields .unlocked
    refine ⟨({ s with clock := s.clock.enter .unlocked } : State).driven, ?_, ?_, rfl, rfl, hindex, htrim, ?_⟩
    · rw [exec, execHoldoverLimit, answer_eq, if_pos hrun, hclock]
    · exact ⟨rfl, rfl, rfl, rfl, rfl, rfl, rfl, rfl, rfl, rfl, rfl, rfl, rfl⟩
    · refine Bool.eq_false_iff.2 fun h => ?_
      obtain ⟨-, -, hacceptable, -⟩ := (State.protReadyOut_iff { s with clock := s.clock.enter .unlocked }).1 h
      exact Bool.false_ne_true hacceptable
  · have hacceptable : s.clock.sync.acceptable = false := by
      rcases hsync with h | h <;> rw [h] <;> rfl
    have hclock : s.clock.raiseLoss = { s.clock with syncLoss := true } :=
      if_pos (by simpa [hacceptable, Config.sampleRate] using hlimit)
    refine ⟨({ s with clock := { s.clock with syncLoss := true } } : State).driven, ?_, ?_, rfl, rfl,
      (State.alarmOut_iff _).2 ⟨(s.inRun_iff.1 hrun).2.1, ?_⟩⟩
    · rw [exec, execSyncLoss, answer_eq, if_pos hrun, hclock]
    · exact ⟨rfl, rfl, rfl, rfl, rfl, rfl, rfl, rfl, rfl, rfl, rfl, rfl, rfl⟩
    · exact .inr (.inr (.inr (.inr (.inl rfl))))
  · dsimp only
    rw [s.clockClosure_authority fit misfit hrun]
    have hnone : (¬∃ n, s.named = .peer n) → ∀ n, s.named ≠ .peer n := fun h n hn => h ⟨n, hn⟩
    refine ⟨?_, s.named_eq_peer_iff, s.named_of_none, s.clockClosure_changed fit misfit hrun,
      fun hpps hsync => s.clockClosure_unlocked fit misfit hrun hpps hsync, fun hsync => ?_, fun hpps hstays => ?_,
      fun hpps hsync hstays => ?_, fun hpps hsync => ?_, fun hpps hsync => ?_⟩
    · rw [s.clockClosure_run hrun]
    · have hnot : s.syncPps = true ∨ s.clock.sync ≠ .unlocked :=
        .inr (by rcases hsync with h | ⟨h, -⟩ <;> rw [h] <;> decide)
      have hnames := s.clockNamed_names_of hnot
      have hcounts := (s.clockNamed_countsMisfit hnot).2 hsync
      rw [← hnames.misfit]
      refine ⟨fun hleaves => s.clockClosure_leaves fit misfit hrun hcounts hleaves, fun hstays => ?_⟩
      exact s.clockClosure_misfit fit misfit hrun hcounts hstays
    · have hnames := s.clockNamed_names_of (.inl hpps)
      rw [← hnames.misfit, and_comm, ← s.clockNamed_countsMisfit (.inl hpps)] at hstays
      obtain ⟨run, hrule, -⟩ := s.misfitRule_stays fit misfit hstays
      rw [s.clockClosure_pps fit misfit hrun hpps, hrule]
      exact ⟨hnames.sync, hnames.slew⟩
    · have hnames := s.clockNamed_names_of (.inr (by rw [hsync]; decide))
      rw [← hnames.misfit] at hstays
      exact s.clockClosure_lockedPeer fit misfit hrun hpps hsync hstays
    · have hnot : s.clock.sync ≠ .unlocked := by rcases hsync with h | h <;> rw [h] <;> decide
      have hnames := s.clockNamed_names_of (.inr hnot)
      rw [s.clockClosure_uncounted fit misfit hrun hpps (by rcases hsync with h | h <;> simp [h])]
      obtain ⟨hfound, hlost⟩ := s.clockNamed.peerChecks_selfOrHoldover s.clock.authority s.lowestHeard
        (by rwa [hnames.sync])
      rw [hnames.authority] at hfound hlost
      refine ⟨fun hpeer => ?_, fun hpeer => ?_⟩
      · rw [hfound hpeer]
        exact ⟨rfl, rfl⟩
      · rw [hlost hpeer, hnames.sync]
    · exact s.clockClosure_acquiring fit misfit hrun hpps hsync
  · dsimp only
    obtain ⟨hclock, hcodes, hauthority, htick, hindex⟩ := s.clockTake_clock f hrun
    refine ⟨hclock, hcodes, hauthority, htick, hindex, fun hnot => ?_, fun hused => ?_⟩
    · have huses : ¬(s.clock.takeCode f).uses f = true := fun h => hnot ((Clock.uses_iff _ f).1 h)
      rw [hcodes, s.clockTake_run f hrun, if_neg huses]
      rfl
    · have huses : (s.clock.takeCode f).uses f = true := (Clock.uses_iff _ f).2 hused
      have htake : (s.clockTake f).clock = (s.clock.takeCode f).use f s.syncPps s.tlink s.marksM := by
        rw [s.clockTake_run f hrun, if_pos huses]
      obtain ⟨-, -, -, -, hlastUsed⟩ := (s.clock.takeCode f).use_keeps f s.tlink s.marksM s.syncPps
      rw [htake]
      refine ⟨hlastUsed, fun hpps => ?_, fun hpps => ?_⟩
      · rw [hpps, Clock.use_pps]
        exact ⟨rfl, rfl, rfl, rfl, rfl⟩
      · rw [hpps]
        exact (s.clock.takeCode f).use_tracking f s.tlink s.marksM

end Sys2Proof.Machine
end

section
/-! PROOFS. ARRIVAL of a peer's accepted frame: what the roster, the assembler and the clock take of it (R49, R57, R58,
R64, R75 to R79, R81). -/

namespace Sys2Proof.Machine

/-! ### The roster (R57, R58, R64) -/

/-- The station with this entry for a sender, VIEW and the pending STATUS request. -/
def State.withTaken (s : State) (n : Station) (e : Entry) (view pending : Bool) : State := { s with
  roster := { s.roster with entries := s.roster.entries.set n e, view := view }
  link := { s.link with statusPending := pending } }

/-- What an accepted frame leaves in its sender's entry `e`, and of the pending STATUS request. -/
structure State.Hears (s : State) (f : Frame) (e : Entry) (pending : Bool) : Prop where
  seen : e.frameSeen = true
  sig : e.sig = some f.sig
  own : f.sig = s.ownSig → e.state = (s.entry f.sender).state
  other : f.sig ≠ s.ownSig → e.state = .excluded ∧ e.good = 0
  query : f.body = .query → (s.entry f.sender).querySeen = false ∨ (s.entry f.sender).lastQuery ≠ some f.index →
    pending = true ∧ e.querySeen = true ∧ e.lastQuery = some f.index
  noQuery : f.body ≠ .query
      ∨ ((s.entry f.sender).querySeen = true ∧ (s.entry f.sender).lastQuery = some f.index) →
    pending = s.link.statusPending ∧ e.querySeen = (s.entry f.sender).querySeen
      ∧ e.lastQuery = (s.entry f.sender).lastQuery
  dup : e.dup = (s.entry f.sender).dup
  subst : e.subst = (s.entry f.sender).subst
  early : e.early = (s.entry f.sender).early
  late : e.late = (s.entry f.sender).late

/-- To hear a frame: the flag, the signature and the description, and EXCLUDED with another signature (R57, R58). -/
theorem Entry.hear_eq (e : Entry) (ownSig : BitVec 16) (f : Frame) : ∃ desc,
    (f.sig = ownSig → e.hear ownSig f = { e with frameSeen := true, sig := some f.sig, desc := desc })
      ∧ (f.sig ≠ ownSig → e.hear ownSig f = { e with
          frameSeen := true, sig := some f.sig, desc := desc, state := .excluded, good := 0, missed := 0
          viewRun := 0 }) :=
  ⟨_, fun h => if_pos h, fun h => if_neg h⟩

section

variable (s : State) (f : Frame)

/-- The entry that a frame which is no first QUERY leaves, with another view-mismatch run, last STATUS and STATUS
flag. -/
theorem State.hears_of_hear (h : f.body ≠ .query
      ∨ ((s.entry f.sender).querySeen = true ∧ (s.entry f.sender).lastQuery = some f.index))
    (last : Option StatusRec) (seen : Bool) (run : Nat) :
    s.Hears f { (s.entry f.sender).hear s.ownSig f with lastStatus := last, statusSeen := seen, viewRun := run }
      s.link.statusPending := by
  obtain ⟨desc, hown, hother⟩ := (s.entry f.sender).hear_eq s.ownSig f
  have hquery (hbody : f.body = .query)
      (hfirst : (s.entry f.sender).querySeen = false ∨ (s.entry f.sender).lastQuery ≠ some f.index) : False := by
    obtain ⟨hseen, hlast⟩ := h.resolve_left fun hne => hne hbody
    rcases hfirst with h | h
    · exact absurd (hseen.symm.trans h) (by decide)
    · exact h hlast
  by_cases hsig : f.sig = s.ownSig
  · rw [hown hsig]
    exact ⟨rfl, rfl, fun _ => rfl, fun h => absurd hsig h, fun hbody hfirst => (hquery hbody hfirst).elim,
      fun _ => ⟨rfl, rfl, rfl⟩, rfl, rfl, rfl, rfl⟩
  · rw [hother hsig]
    exact ⟨rfl, rfl, fun h => absurd h hsig, fun _ => ⟨rfl, rfl⟩, fun hbody hfirst => (hquery hbody hfirst).elim,
      fun _ => ⟨rfl, rfl, rfl⟩, rfl, rfl, rfl, rfl⟩

/-- The entry that a first QUERY leaves. -/
theorem State.hears_of_query (hbody : f.body = .query)
    (h : (s.entry f.sender).querySeen = false ∨ (s.entry f.sender).lastQuery ≠ some f.index) :
    s.Hears f { (s.entry f.sender).hear s.ownSig f with lastQuery := some f.index, querySeen := true } true := by
  obtain ⟨desc, hown, hother⟩ := (s.entry f.sender).hear_eq s.ownSig f
  have hsecond (h1 : f.body ≠ .query
      ∨ ((s.entry f.sender).querySeen = true ∧ (s.entry f.sender).lastQuery = some f.index)) : False := by
    obtain ⟨hseen, hlast⟩ := h1.resolve_left fun hne => hne hbody
    rcases h with h | h
    · exact absurd (hseen.symm.trans h) (by decide)
    · exact h hlast
  by_cases hsig : f.sig = s.ownSig
  · rw [hown hsig]
    exact ⟨rfl, rfl, fun _ => rfl, fun h => absurd hsig h, fun _ _ => ⟨rfl, rfl, rfl⟩, fun h => (hsecond h).elim, rfl,
      rfl, rfl, rfl⟩
  · rw [hother hsig]
    exact ⟨rfl, rfl, fun h => absurd h hsig, fun _ => ⟨rfl, rfl⟩, fun _ _ => ⟨rfl, rfl, rfl⟩,
      fun h => (hsecond h).elim, rfl, rfl, rfl, rfl⟩

theorem Entry.querySecond_iff (e : Entry) : e.querySecond f = true ↔
    e.querySeen = true ∧ e.lastQuery = some f.index := by
  simp [Entry.querySecond]

/-- What the roster takes of a frame. -/
theorem State.rosterTake_hears (p : Path) : ∃ e view pending,
    s.rosterTake p f = s.withTaken f.sender e view pending ∧ s.Hears f e pending := by
  cases hbody : f.body with
  | sample v cl cur bay =>
    refine ⟨_, s.roster.view, s.link.statusPending, ?_, s.hears_of_hear f (.inl (by simp [hbody]))
      ((s.entry f.sender).hear s.ownSig f).lastStatus ((s.entry f.sender).hear s.ownSig f).statusSeen
      ((s.entry f.sender).hear s.ownSig f).viewRun⟩
    simp only [State.rosterTake, hbody]
    rfl
  | query =>
    by_cases hsecond : (s.entry f.sender).querySecond f = true
    · refine ⟨_, s.roster.view, s.link.statusPending, ?_, s.hears_of_hear f
        (.inr ((Entry.querySecond_iff f _).1 hsecond))
        ((s.entry f.sender).hear s.ownSig f).lastStatus ((s.entry f.sender).hear s.ownSig f).statusSeen
        ((s.entry f.sender).hear s.ownSig f).viewRun⟩
      simp only [State.rosterTake, hbody, hsecond, if_true]
      rfl
    · refine ⟨_, s.roster.view, true, ?_, s.hears_of_query f hbody ?_⟩
      · rw [Bool.not_eq_true] at hsecond
        simp only [State.rosterTake, hbody, hsecond, Bool.false_eq_true, if_false, State.onEntry_onEntry]
        rfl
      · rw [Entry.querySecond_iff, not_and_or, Bool.not_eq_true] at hsecond
        exact hsecond
  | status prot desc mask auth ha hb =>
    have hnoQuery : f.body ≠ .query := by simp [hbody]
    cases hsecond : (s.entry f.sender).statusSecond f
    · rw [s.rosterTake_status_first p hbody hsecond, State.viewAfterStatus_eq]
      refine ⟨(s.entry f.sender).takeStatus s.ownSig f (s.statusRecord p f prot mask auth ha hb), _,
        s.link.statusPending, rfl, ?_⟩
      rw [Entry.takeStatus, Entry.viewStep_eq]
      exact s.hears_of_hear f (.inl hnoQuery) _ _ _
    · rw [s.rosterTake_status_second p hbody hsecond]
      exact ⟨_, s.roster.view, s.link.statusPending, rfl, s.hears_of_hear f (.inl hnoQuery)
        ((s.entry f.sender).hear s.ownSig f).lastStatus ((s.entry f.sender).hear s.ownSig f).statusSeen
        ((s.entry f.sender).hear s.ownSig f).viewRun⟩

end

/-! ### The assembler when no slot takes the frame (R75, R78, R79) -/

/-- The station with these LATE and EARLY counts for a sender, and authority misfit. -/
def State.withPlaced (s : State) (n : Station) (late early : Nat) (misfit : Bool) : State := { s with
  roster := { s.roster with entries := s.roster.entries.set n { s.entry n with late := late, early := early } }
  asm := { s.asm with misfit := misfit } }

section

variable (s : State) (f : Frame)

theorem State.withPlaced_self (n : Station) :
    s.withPlaced n (s.entry n).late (s.entry n).early s.asm.misfit = s := by
  have hentries : s.roster.entries.set n (s.entry n) = s.roster.entries := Tab.set_get_self _ _
  simp only [State.withPlaced, hentries]

theorem State.noteMisfit_eq (n : Station) :
    s.noteMisfit n = { s with asm := { s.asm with misfit := s.asm.misfit || s.isAuthority n } } := by
  unfold State.noteMisfit
  split_ifs with h
  · rw [h, Bool.or_true]
  · rw [Bool.eq_false_iff.2 h, Bool.or_false]

theorem State.countEarly_noteMisfit (n : Station) : (s.countEarly n).noteMisfit n
    = s.withPlaced n (s.entry n).late (satInc 65535 (s.entry n).early) (s.asm.misfit || s.isAuthority n) := by
  rw [State.noteMisfit_eq]
  rfl

theorem State.countLate_noteMisfit (n : Station) : (s.countLate n).noteMisfit n
    = s.withPlaced n (satInc 65535 (s.entry n).late) (s.entry n).early (s.asm.misfit || s.isAuthority n) := by
  rw [State.noteMisfit_eq]
  rfl

theorem State.placement_nil (h : s.asm.openSets = []) (k : Nat) : s.placement k = .noSet := by
  rw [State.placement, h]

/-- Where an index lies against the oldest open set (R75). -/
theorem State.placement_cons {o : OpenSet} {rest : List OpenSet} (h : s.asm.openSets = o :: rest)
    (ho : o.index < 48000) (k : Nat) : s.placement k =
      if (k + 48000 - o.index) % 48000 < s.asm.openSets.length then .inSet
      else if (k + 48000 - o.index) % 48000 < 24000 then .early else .late := by
  have hahead : ahead k o.index = (k + 48000 - o.index) % 48000 := by
    rw [ahead, Config.indexCount, Nat.mod_eq_of_lt ho]
  rw [State.placement, ← hahead, h]

/-- What the assembler leaves of a frame that meets no slot which takes it. -/
structure State.Places (s : State) (f : Frame) (late early : Nat) (misfit : Bool) : Prop where
  unplaced : f.body.isSample = false ∨ f.sig ≠ s.ownSig ∨ s.asm.openSets = [] →
    misfit = s.asm.misfit ∧ early = (s.entry f.sender).early ∧ late = (s.entry f.sender).late
  placed : ∀ o rest, f.body.isSample = true → f.sig = s.ownSig → s.asm.openSets = o :: rest → o.index < 48000 →
    let past := (f.index + 48000 - o.index) % 48000
    s.asm.openSets.length ≤ past →
      (misfit = true ↔ s.asm.misfit = true ∨ s.clock.authority = .peer f.sender)
      ∧ (past ≤ 23999 → early = satInc 65535 (s.entry f.sender).early ∧ late = (s.entry f.sender).late)
      ∧ (24000 ≤ past → late = satInc 65535 (s.entry f.sender).late ∧ early = (s.entry f.sender).early)

theorem State.isAuthority_iff (n : Station) : s.isAuthority n = true ↔ s.clock.authority = .peer n := by
  simp [State.isAuthority]

/-- A frame that is EARLY. -/
theorem State.places_early (hsample : f.body.isSample = true) (hsig : f.sig = s.ownSig)
    (hearly : s.placement f.index = .early) : s.Places f (s.entry f.sender).late (satInc 65535 (s.entry f.sender).early)
      (s.asm.misfit || s.isAuthority f.sender) := by
  refine ⟨fun h => ?_, fun o rest _ _ hopen ho hpast => ⟨?_, fun _ => ⟨rfl, rfl⟩, fun hlate => ?_⟩⟩
  · rcases h with h | h | h
    · exact absurd (hsample.symm.trans h) (by decide)
    · exact absurd hsig h
    · exact absurd ((s.placement_nil h _).symm.trans hearly) (by decide)
  · rw [Bool.or_eq_true, s.isAuthority_iff]
  · rw [s.placement_cons hopen ho, if_neg (not_lt.2 hpast), if_neg (not_lt.2 hlate)] at hearly
    exact absurd hearly (by decide)

/-- A frame that is LATE. -/
theorem State.places_late (hsample : f.body.isSample = true) (hsig : f.sig = s.ownSig)
    (hlate : s.placement f.index = .late) : s.Places f (satInc 65535 (s.entry f.sender).late) (s.entry f.sender).early
      (s.asm.misfit || s.isAuthority f.sender) := by
  refine ⟨fun h => ?_, fun o rest _ _ hopen ho hpast => ⟨?_, fun hearly => ?_, fun _ => ⟨rfl, rfl⟩⟩⟩
  · rcases h with h | h | h
    · exact absurd (hsample.symm.trans h) (by decide)
    · exact absurd hsig h
    · exact absurd ((s.placement_nil h _).symm.trans hlate) (by decide)
  · rw [Bool.or_eq_true, s.isAuthority_iff]
  · rw [s.placement_cons hopen ho, if_neg (not_lt.2 hpast), if_pos (by omega)] at hlate
    exact absurd hlate (by decide)

/-- A frame that is not placed, or lies within the open sets. -/
theorem State.places_nothing (h : f.body.isSample = false ∨ f.sig ≠ s.ownSig ∨ s.placement f.index = .noSet
      ∨ s.placement f.index = .inSet) :
    s.Places f (s.entry f.sender).late (s.entry f.sender).early s.asm.misfit := by
  refine ⟨fun _ => ⟨rfl, rfl, rfl⟩, fun o rest hsample hsig hopen ho hpast => ?_⟩
  rw [s.placement_cons hopen ho, if_neg (not_lt.2 hpast)] at h
  rcases h with h | h | h
  · exact absurd (hsample.symm.trans h) (by decide)
  · exact absurd hsig h
  · split_ifs at h <;> simp at h

/-- A slot that takes no frame was DAMAGED before. -/
theorem State.meetSlot_damaged (o : OpenSet) (p : Path) (c : Contribution)
    (h : (o.slots.get f.sender).takesFrame = false) : s.meetSlot o p f c = s := by
  obtain ⟨hparity, hbody⟩ : (o.slots.get f.sender).parityBad = false ∧ (o.slots.get f.sender).body = .damaged := by
    simpa [OpenSlot.takesFrame] using h
  simp [State.meetSlot, hparity, hbody]

/-- What the assembler takes of a frame that meets no slot which takes it. -/
theorem State.assemblerTake_places (p : Path) (h : s.evaluatesAfter f = false) : ∃ late early misfit,
    s.assemblerTake p f = s.withPlaced f.sender late early misfit ∧ s.Places f late early misfit := by
  have hnothing (hsame : s.assemblerTake p f = s)
      (hplaced : f.body.isSample = false ∨ f.sig ≠ s.ownSig ∨ s.placement f.index = .noSet
        ∨ s.placement f.index = .inSet) : ∃ late early misfit,
      s.assemblerTake p f = s.withPlaced f.sender late early misfit ∧ s.Places f late early misfit :=
    ⟨_, _, _, hsame.trans (s.withPlaced_self f.sender).symm, s.places_nothing f hplaced⟩
  cases hbody : f.body with
  | query => exact hnothing (by simp [State.assemblerTake, hbody]) (.inl (by simp [hbody, Body.isSample]))
  | status prot desc mask auth ha hb =>
    exact hnothing (by simp [State.assemblerTake, hbody]) (.inl (by simp [hbody, Body.isSample]))
  | sample valid clamp cur bay =>
    have hsample : f.body.isSample = true := by rw [hbody]; rfl
    by_cases hsig : f.sig = s.ownSig
    · cases hplace : s.placement f.index with
      | noSet =>
        exact hnothing (by simp [State.assemblerTake, hbody, hsig, hplace]) (.inr (.inr (.inl hplace)))
      | early =>
        refine ⟨_, _, _, ?_, s.places_early f hsample hsig hplace⟩
        rw [← s.countEarly_noteMisfit]
        simp [State.assemblerTake, hbody, hsig, hplace]
      | late =>
        refine ⟨_, _, _, ?_, s.places_late f hsample hsig hplace⟩
        rw [← s.countLate_noteMisfit]
        simp [State.assemblerTake, hbody, hsig, hplace]
      | inSet =>
        refine hnothing ?_ (.inr (.inr (.inr hplace)))
        cases hfind : s.findOpen f.index with
        | none => simp [State.assemblerTake, hbody, hsig, hplace, hfind]
        | some o =>
          have htakes : (o.slots.get f.sender).takesFrame = false := by
            simpa [State.evaluatesAfter, hsample, hsig, hplace, hfind] using h
          simp only [State.assemblerTake, hbody, hsig, hplace, hfind, ne_eq, not_true_eq_false, if_false]
          exact s.meetSlot_damaged f o p _ htakes
    · exact hnothing (by simp [State.assemblerTake, hbody, hsig]) (.inr (.inl hsig))

end

/-- Settles O23: the health count, then what the roster, the assembler and the clock take, one after the other. -/
theorem arrivalAccepted : Obligations.ArrivalAccepted := by
  unfold Obligations.ArrivalAccepted
  intro s p bytes f hstep hrun hup hgood hscheme hparse hmask hown
  have hexec := exec_arrival s p bytes false hstep hrun hup
  rw [s.judgeFrame_accepted p bytes f hgood hscheme hparse hmask hown, State.acceptFrame] at hexec
  have hhealth : ((s.onPath p PathCtl.credit).link.paths.get p).health = (s.link.paths.get p).health - 1 := by
    rw [← PathCtl.credit_health _ hup]
    simp [State.onPath]
  refine ⟨fun hfailed => ?_, fun hnotFailed hevaluates => ?_⟩
  · have hnotGood : ¬s.pathGood p = true := fun h => ((s.pathGood_iff p).1 h).2 hfailed
    rw [if_neg hnotGood] at hexec
    exact ⟨_, hexec, s.onlyLink_onPath p _, hhealth⟩
  · rw [if_pos ((s.pathGood_iff p).2 ⟨hup, hnotFailed⟩)] at hexec
    obtain ⟨e, view, pending, htake, hhears⟩ := (s.onPath p PathCtl.credit).rosterTake_hears f p
    obtain ⟨late, early, misfit, hassembler, hplaces⟩ :=
      ((s.onPath p PathCtl.credit).withTaken f.sender e view pending).assemblerTake_places f p hevaluates
    obtain ⟨u, hu⟩ : ∃ u, u = ((s.onPath p PathCtl.credit).withTaken f.sender e view pending).withPlaced f.sender late
      early misfit := ⟨_, rfl⟩
    have hhand : (s.onPath p PathCtl.credit).handOver p f = u.clockTake f := by
      rw [State.handOver, htake, hassembler, hu]
      exact congrArg (State.clockTake · f) (if_neg (Bool.eq_false_iff.1 hevaluates))
    obtain ⟨hclock, hcodes, -⟩ := u.clockTake_clock f (by rw [hu]; exact (s.inRun_iff.1 hrun).1)
    rw [hhand] at hexec
    have hentry (n : Station) : (u.clockTake f).driven.entry n
        = if n = f.sender then { e with late := late, early := early } else s.entry n := by
      rw [State.driven_entry, hclock, hu]
      simp only [State.entry, State.withPlaced, State.withTaken, Tab.get_set, State.onPath_roster, if_true]
      split_ifs <;> rfl
    have hsender := (hentry f.sender).trans (if_pos rfl)
    have hsenderTaken : ((s.onPath p PathCtl.credit).withTaken f.sender e view pending).entry f.sender = e := by
      simp [State.entry, State.withTaken]
    obtain ⟨hunplaced, hplaced⟩ := hplaces
    rw [hsenderTaken, hhears.early, hhears.late] at hunplaced
    simp only [hsenderTaken, hhears.early, hhears.late] at hplaced
    refine ⟨_, hexec, ?_⟩
    rw [hsender]
    have hothers (n : Station) (hn : n ≠ f.sender) : (u.clockTake f).driven.entry n = s.entry n :=
      (hentry n).trans (if_neg hn)
    have hblocks : (u.clockTake f).driven = { u with
        clock := (u.clockTake f).clock, out := (u.clockTake f).driven.out } := by
      rw [hclock]
      rfl
    have hcode : (u.clockTake f).clock.codes.get f.sender = f.sync := by rw [hcodes, Tab.get_set, if_pos rfl]
    rw [hblocks, hu]
    rw [hu] at hcode
    rw [hblocks, hu] at hothers
    exact ⟨hhealth, hhears.seen, hhears.sig, hhears.own, hhears.other, hhears.query, hhears.noQuery,
      hothers, hcode, rfl, rfl, rfl, rfl, rfl, rfl, rfl, rfl, rfl, rfl, hhears.dup,
      hhears.subst, hunplaced, hplaced⟩

/-! ### Writing a slot of an open set (R76, R77) -/

section

variable (s : State) (k : Nat) (n : Station) (b : SlotBody)

/-- The open set of the slot written has that slot, every other open set is as it was. -/
theorem State.findOpen_writeSlot (j : Nat) : (s.writeSlot k n b).findOpen j
    = (s.findOpen j).map fun o => if o.index = k then { o with slots := o.slots.set n ⟨b, false⟩ } else o := by
  simp only [State.findOpen, State.writeSlot, List.find?_map]
  congr 1
  refine congrArg (List.find? · _) (funext fun o => ?_)
  simp only [Function.comp_apply]
  split_ifs <;> rfl

theorem State.findOpen_writeSlot_same {o : OpenSet} (h : s.findOpen k = some o) :
    (s.writeSlot k n b).findOpen k = some { o with slots := o.slots.set n ⟨b, false⟩ } := by
  have hindex : o.index = k := by simpa using List.find?_some h
  rw [State.findOpen_writeSlot, h, Option.map_some, if_pos hindex]

theorem State.findOpen_writeSlot_other {j : Nat} (hj : j ≠ k) :
    (s.writeSlot k n b).findOpen j = s.findOpen j := by
  rw [State.findOpen_writeSlot]
  cases h : s.findOpen j with
  | none => rfl
  | some o =>
    have hindex : o.index = j := by simpa using List.find?_some h
    rw [Option.map_some, if_neg (by rw [hindex]; exact hj)]

theorem State.writeSlot_indices : (s.writeSlot k n b).asm.openSets.map OpenSet.index
    = s.asm.openSets.map OpenSet.index := by
  simp only [State.writeSlot, List.map_map]
  refine List.map_congr_left fun o _ => ?_
  simp only [Function.comp_apply]
  split_ifs <;> rfl

theorem State.noteFit_eq : s.noteFit n = { s with asm := { s.asm with fit := s.asm.fit || s.isAuthority n } } := by
  unfold State.noteFit
  split_ifs with h
  · rw [h, Bool.or_true]
  · rw [Bool.eq_false_iff.2 h, Bool.or_false]

/-- Completion is evaluated when the set is the oldest open one. -/
theorem State.evaluateSet_cases : ((∀ i ∈ (s.asm.openSets.map OpenSet.index).head?, i ≠ k) → s.evaluateSet k = s)
    ∧ ((s.asm.openSets.map OpenSet.index).head? = some k → s.evaluateSet k = s.closeComplete) := by
  unfold State.evaluateSet
  cases s.asm.openSets with
  | nil => simp
  | cons o rest =>
    refine ⟨fun h => if_neg (h o.index rfl), fun h => if_pos ?_⟩
    simpa using h

end

/-- A frame has met the slot of its sender in open set `o` (R76, R77): the slot, the sender's entry and authority fit,
with every other slot and block as it was but the link, the roster and the clock. -/
def State.FrameMeets (s : State) (p : Path) (f : Frame) (o : OpenSet) (c : Contribution) (t : State) : Prop :=
  ∃ u, t.findOpen f.index = some u
    ∧ (∀ n, n ≠ f.sender → u.slots.get n = o.slots.get n)
    ∧ t.asm.openSets.map OpenSet.index = s.asm.openSets.map OpenSet.index
    ∧ (∀ k, k ≠ f.index → t.findOpen k = s.findOpen k)
    ∧ ((o.slots.get f.sender).body = .empty →
        u.slots.get f.sender = ⟨.filled c false, false⟩
        ∧ (t.entry f.sender).dup = (s.entry f.sender).dup
        ∧ t.asm.fit = (s.asm.fit || s.isAuthority f.sender))
    ∧ (∀ c0 other, (o.slots.get f.sender).body = .filled c0 other →
        u.slots.get f.sender = ⟨.filled c0 (other || c0.path != some p), false⟩
        ∧ (t.entry f.sender).dup = satInc 65535 (s.entry f.sender).dup ∧ t.asm.fit = s.asm.fit)
    ∧ ((o.slots.get f.sender).body = .damaged → u.slots.get f.sender = o.slots.get f.sender)
    ∧ (t.entry f.sender).frameSeen = true ∧ t.asm.misfit = s.asm.misfit ∧ t.asm.history = s.asm.history
    ∧ t.diff = s.diff ∧ t.trip = s.trip ∧ t.replica = s.replica ∧ t.ctl = s.ctl ∧ t.bay = s.bay
    ∧ t.sup = s.sup ∧ t.svc = s.svc ∧ t.pins = s.pins ∧ t.health = s.health ∧ t.pending = s.pending

section

variable (s : State) (p : Path) (f : Frame) {o : OpenSet} (c : Contribution)

/-- A frame whose sender's entry the roster has taken meets its slot. -/
theorem State.meetSlot_meets {e : Entry} {view pending : Bool}
    (hears : (s.onPath p PathCtl.credit).Hears f e pending) (ho : s.findOpen f.index = some o)
    (hparity : (o.slots.get f.sender).parityBad = false) :
    s.FrameMeets p f o c (((s.onPath p PathCtl.credit).withTaken f.sender e view pending).meetSlot o p f c)
      ∧ (((s.onPath p PathCtl.credit).withTaken f.sender e view pending).meetSlot o p f c).clock = s.clock := by
  have hindex : o.index = f.index := by simpa using List.find?_some ho
  have hentry : ((s.onPath p PathCtl.credit).withTaken f.sender e view pending).entry f.sender = e := by
    simp [State.entry, State.withTaken]
  have hbad : ¬(o.slots.get f.sender).parityBad = true := by rw [hparity]; decide
  have hwrite (b : SlotBody) : (((s.onPath p PathCtl.credit).withTaken f.sender e view pending).writeSlot f.index
      f.sender b).findOpen f.index = some { o with slots := o.slots.set f.sender ⟨b, false⟩ } :=
    State.findOpen_writeSlot_same ((s.onPath p PathCtl.credit).withTaken f.sender e view pending) f.index f.sender b ho
  have hother (b : SlotBody) (k : Nat) (hk : k ≠ f.index) : (((s.onPath p PathCtl.credit).withTaken f.sender e view
      pending).writeSlot f.index f.sender b).findOpen k = s.findOpen k :=
    State.findOpen_writeSlot_other _ f.index f.sender b hk
  have hindices (b : SlotBody) : (((s.onPath p PathCtl.credit).withTaken f.sender e view pending).writeSlot f.index
      f.sender b).asm.openSets.map OpenSet.index = s.asm.openSets.map OpenSet.index :=
    State.writeSlot_indices _ f.index f.sender b
  have hslots (b : SlotBody) (n : Station) (hn : n ≠ f.sender) :
      (o.slots.set f.sender ⟨b, false⟩).get n = o.slots.get n := (Tab.get_set ..).trans (if_neg hn)
  have hslot (b : SlotBody) : (o.slots.set f.sender ⟨b, false⟩).get f.sender = ⟨b, false⟩ :=
    (Tab.get_set ..).trans (if_pos rfl)
  rw [State.meetSlot, if_neg hbad, hindex]
  cases hbody : (o.slots.get f.sender).body with
  | damaged =>
    refine ⟨⟨o, ho, fun _ _ => rfl, rfl, fun _ _ => rfl, by simp [hbody], by simp [hbody], fun _ => rfl, ?_, rfl, rfl,
      rfl, rfl, rfl, rfl, rfl, rfl, rfl, rfl, rfl, rfl⟩, rfl⟩
    rw [hentry]
    exact hears.seen
  | empty =>
    dsimp only
    rw [State.noteFit_eq]
    refine ⟨⟨_, hwrite _, hslots _, hindices _, hother _, fun _ => ⟨hslot _, ?_, rfl⟩, by simp [hbody],
      by simp [hbody], ?_, rfl, rfl, rfl, rfl, rfl, rfl, rfl, rfl, rfl, rfl, rfl, rfl⟩, rfl⟩
    · exact (congrArg Entry.dup hentry).trans hears.dup
    · exact (congrArg Entry.frameSeen hentry).trans hears.seen
  | filled c0 other =>
    have hcount : ((((s.onPath p PathCtl.credit).withTaken f.sender e view pending).writeSlot f.index f.sender
        (.filled c0 (other || c0.path != some p))).countDup f.sender).entry f.sender
        = { e with dup := satInc 65535 e.dup } := by
      rw [State.countDup, State.entry_onEntry, if_pos rfl]
      exact congrArg (fun x : Entry => { x with dup := satInc 65535 x.dup }) hentry
    refine ⟨⟨_, hwrite _, hslots _, hindices _, hother _, by simp [hbody], ?_, by simp [hbody], ?_, rfl, rfl, rfl, rfl,
      rfl, rfl, rfl, rfl, rfl, rfl, rfl, rfl⟩, rfl⟩
    · intro c1 other1 hc
      rw [hbody] at hc
      cases hc
      refine ⟨hslot _, ?_, rfl⟩
      exact (congrArg Entry.dup hcount).trans (congrArg (satInc 65535) hears.dup)
    · exact (congrArg Entry.frameSeen hcount).trans hears.seen

/-- The clock and the outputs are no part of what a frame leaves in its slot. -/
theorem State.FrameMeets.clock {t : State} (h : s.FrameMeets p f o c t) (k : Clock) :
    s.FrameMeets p f o c (State.driven { t with clock := k }) := h

end

/-- Settles O24. -/
theorem arrivalFillsSlot : Obligations.ArrivalFillsSlot := by
  unfold Obligations.ArrivalFillsSlot
  intro s p bytes f o valid clamp cur bay hstep hrun hpath hgood hscheme hparse hmask hown hsig hbody hplace ho hparity
  obtain ⟨hup, -⟩ := (s.pathGood_iff p).1 hpath
  have hexec := exec_arrival s p bytes false hstep hrun hup
  rw [s.judgeFrame_accepted p bytes f hgood hscheme hparse hmask hown, State.acceptFrame, if_pos hpath] at hexec
  obtain ⟨e, view, pending, htake, hears⟩ := (s.onPath p PathCtl.credit).rosterTake_hears f p
  obtain ⟨hmeets, hclock⟩ := s.meetSlot_meets p f (s.frameContribution p f valid clamp cur bay) (view := view) hears ho
    hparity
  obtain ⟨u, hu⟩ : ∃ u, u = ((s.onPath p PathCtl.credit).withTaken f.sender e view pending).meetSlot o p f
    (s.frameContribution p f valid clamp cur bay) := ⟨_, rfl⟩
  have hassembler : ((s.onPath p PathCtl.credit).withTaken f.sender e view pending).assemblerTake p f = u := by
    have hplace' : ((s.onPath p PathCtl.credit).withTaken f.sender e view pending).placement f.index = .inSet := hplace
    have ho' : ((s.onPath p PathCtl.credit).withTaken f.sender e view pending).findOpen f.index = some o := ho
    have hsig' : ¬f.sig ≠ ((s.onPath p PathCtl.credit).withTaken f.sender e view pending).ownSig := fun h => h hsig
    simp only [State.assemblerTake, hbody, hplace', ho', if_neg hsig']
    exact hu.symm
  rw [← hu] at hmeets hclock
  have hevaluates : (s.onPath p PathCtl.credit).evaluatesAfter f = true ↔ (o.slots.get f.sender).body ≠ .damaged := by
    have hplace' : (s.onPath p PathCtl.credit).placement f.index = .inSet := hplace
    have ho' : (s.onPath p PathCtl.credit).findOpen f.index = some o := ho
    have hsig' : f.sig = (s.onPath p PathCtl.credit).ownSig := hsig
    simp [State.evaluatesAfter, hbody, Body.isSample, hplace', ho', ← hsig', OpenSlot.takesFrame, hparity]
  have hindices : u.asm.openSets.map OpenSet.index = s.asm.openSets.map OpenSet.index := by
    obtain ⟨-, -, -, hindices, -⟩ := hmeets
    exact hindices
  obtain ⟨hother, hhead⟩ := u.evaluateSet_cases f.index
  rw [hindices, List.head?_map] at hother hhead
  rw [State.handOver, htake, hassembler] at hexec
  refine ⟨fun hnot => ?_, fun hoccupied hnotDamaged => ⟨u, hmeets, hclock, ?_⟩⟩
  · have hstays : (if (s.onPath p PathCtl.credit).evaluatesAfter f then u.evaluateSet f.index else u) = u := by
      split_ifs with h
      · refine hother fun i hi => ?_
        obtain ⟨h1, hh1, rfl⟩ := Option.mem_map.1 hi
        exact hnot.resolve_right (hevaluates.1 h) h1 hh1
      · rfl
    obtain ⟨htaken, -⟩ := u.clockTake_clock f (by
      obtain ⟨-, -, -, -, -, -, -, -, -, -, -, -, -, -, hctl, -⟩ := hmeets
      rw [hctl]
      exact (s.inRun_iff.1 hrun).1)
    rw [hstays, htaken] at hexec
    exact ⟨_, hexec, hmeets⟩
  · rw [if_pos (hevaluates.2 hnotDamaged)] at hexec
    rw [hexec, hhead]
    cases hopen : s.asm.openSets with
    | nil => simp [State.findOpen, hopen] at ho
    | cons h rest =>
      rw [hopen] at hoccupied
      exact congrArg some (hoccupied h rfl)

end Sys2Proof.Machine
end

section
/-! PROOFS. The frames that the station builds, read back by a station of the same scheme (R37 to R41, R45 to R47), and
their way into the slots of the paths (R42, R43). -/

namespace Sys2Proof.Machine

/-! ### Bytes of a built frame (R37, R38) -/

theorem toNat_toByte (n : Nat) : (toByte n).toNat = n % 256 := by simp [toByte]

theorem toNat_toByte_of_lt {n : Nat} (h : n < 256) : (toByte n).toNat = n := by rw [toNat_toByte, Nat.mod_eq_of_lt h]

/-- The bytes of a 16-bit field give the field back. -/
theorem toNat_le16 {n : Nat} (h : n < 65536) : (toByte n).toNat + 256 * (toByte (n / 256)).toNat = n := by
  rw [toNat_toByte, toNat_toByte]
  omega

theorem byteAt_append_left {a : List Byte} (b : List Byte) {i : Nat} (h : i < a.length) :
    byteAt (a ++ b) i = byteAt a i := by
  simp [byteAt, List.getD, List.getElem?_append_left h]

section

variable (s : State)

theorem State.groupAddress_length (h : s.blockBytes.length = 58) : s.groupAddress.length = 6 := by
  simp [State.groupAddress, h]

theorem State.header_length (h : s.blockBytes.length = 58) : s.header.length = 14 :=
  headerOf_length _ _ (s.groupAddress_length h)

/-- A built frame is of the own scheme. -/
theorem State.schemeFrame_wireFrame (h : s.blockBytes.length = 58) (p : List Byte) :
    s.schemeFrame (wireFrame s.header p) = true := by
  have hgroup := s.groupAddress_length h
  have hsource := sourceAddress_length s.ctl.strap hgroup
  have hlink : s.linkType < 65536 := u16At_lt _ _
  obtain ⟨rest, hframe⟩ : ∃ rest, wireFrame s.header p = s.groupAddress ++ (sourceAddress s.groupAddress s.ctl.strap
      ++ ([toByte (s.linkType / 256), toByte s.linkType] ++ rest)) :=
    ⟨padPayload p ++ fcsOf (s.header ++ padPayload p), by simp [wireFrame, State.header, headerOf]⟩
  have hskip : ∀ i, byteAt (wireFrame s.header p) (12 + i)
      = byteAt ([toByte (s.linkType / 256), toByte s.linkType] ++ rest) i := by
    intro i
    have hdrop : (wireFrame s.header p).drop 12 = [toByte (s.linkType / 256), toByte s.linkType] ++ rest := by
      rw [hframe, ← List.append_assoc, List.drop_left' (by simp [hgroup, hsource])]
    rw [← hdrop, byteAt_drop]
  rw [s.schemeFrame_iff]
  refine ⟨by rw [hframe, List.take_left' hgroup], ?_⟩
  have hhigh := hskip 0
  have hlow := hskip 1
  simp only [Nat.add_zero, Nat.reduceAdd] at hhigh hlow
  rw [hhigh, hlow]
  show (toByte (s.linkType / 256)).toNat * 256 + (toByte s.linkType).toNat = s.linkType
  rw [toNat_toByte, toNat_toByte]
  omega

/-- What every payload of a frame holds before its body, and the body that follows. -/
structure Carries (payload : List Byte) (f : Frame) : Prop where
  long : 8 ≤ payload.length ∧ payload.length ≤ 46
  sender : byteAt payload 1 = f.sender.val + 1
  index : u16At payload 2 = f.index ∧ f.index < 48000
  sync : byteAt payload 4 = f.sync.code
  sig : u16At payload 6 = f.sig.toNat
  body : ∀ rest, bodyOf (payload ++ rest) = some f.body

/-- A built frame is accepted and read as what its payload carries. -/
theorem State.accepts_wireFrame (h : s.blockBytes.length = 58) {payload : List Byte} {f : Frame}
    (hcarries : Carries payload f) : frameGood (wireFrame s.header payload) false = true
      ∧ s.schemeFrame (wireFrame s.header payload) = true ∧ parseFrame (wireFrame s.header payload) = some f := by
  obtain ⟨⟨hlong, hshort⟩, hsender, ⟨hindex, hindexLt⟩, hsync, hsig, hbody⟩ := hcarries
  have hheader := s.header_length h
  refine ⟨wireFrame_good hheader hshort, s.schemeFrame_wireFrame h payload, ?_⟩
  obtain ⟨rest, hdrop⟩ : ∃ rest, (wireFrame s.header payload).drop 14 = payload ++ rest :=
    ⟨_, by rw [wireFrame_drop payload hheader, padPayload, List.append_assoc]⟩
  have hbyte (i : Nat) (hi : i < 8) : byteAt (wireFrame s.header payload) (14 + i) = byteAt payload i := by
    rw [← byteAt_append_left rest (hi.trans_le hlong), ← hdrop, byteAt_drop]
  have hword (i : Nat) (hi : i < 7) : u16At (wireFrame s.header payload) (14 + i) = u16At payload i := by
    rw [u16At, u16At, hbyte i (by omega), Nat.add_assoc, hbyte (i + 1) (by omega)]
  have hsyncOf : syncOf f.sync.code = some f.sync := by cases f.sync <;> rfl
  rw [parseFrame_eq_some_iff, hdrop, hbody]
  refine ⟨(stationOf_eq_some_iff _ _).2 (((hbyte 1 (by decide)).trans hsender).symm), ?_, rfl, ?_, ?_, ?_⟩
  · rw [(hbyte 4 (by decide)).trans hsync, hsyncOf]
  · rw [(hword 2 (by decide)).trans hindex]
    exact hindexLt
  · rw [(hword 2 (by decide)).trans hindex]
  · rw [(hword 6 (by decide)).trans hsig, BitVec.ofNat_toNat, BitVec.setWidth_eq]

/-! ### The QUERY (R40) -/

variable {n : Station}

theorem State.strap_of_own (h : s.own = some n) : s.ctl.strap = n.val + 1 :=
  ((stationOf_eq_some_iff _ _).1 h).symm

theorem SyncState.code_lt (x : SyncState) : x.code < 256 := by cases x <;> decide

theorem State.toNat_strap (h : s.own = some n) : (toByte s.ctl.strap).toNat = n.val + 1 := by
  rw [s.strap_of_own h]
  exact toNat_toByte_of_lt (by omega)

/-- The QUERY carries the header alone. -/
theorem State.queryPayload_carries (hown : s.own = some n) (hindex : s.clock.index < 48000) :
    Carries s.queryPayload
      { sender := n, index := s.clock.index, sync := s.clock.sync, sig := s.ownSig, body := .query } where
  long := by simp [State.queryPayload, le16]
  sender := s.toNat_strap hown
  index := ⟨toNat_le16 (by omega), hindex⟩
  sync := toNat_toByte_of_lt s.clock.sync.code_lt
  sig := toNat_le16 s.ownSig.isLt
  body _ := rfl

/-! ### The bay description (R41, R47) -/

theorem zoneNum_zoneOf : ∀ {x : Nat}, x ≤ 4 → zoneNum (zoneOf x) = x
  | 0, _ | 1, _ | 2, _ | 3, _ | 4, _ => rfl
  | x + 5, h => absurd h (by omega)

/-- The own description on the wire is read as it is configured. -/
theorem State.descOf_ownDesc
    (h : (descOf (byteAt s.blockBytes 18) (byteAt s.blockBytes 19) (byteAt s.blockBytes 20)).isSome = true) :
    descOf (toByte s.ownDesc.kind.code).toNat (toByte (zoneNum s.ownDesc.zx)).toNat
      (toByte (zoneNum s.ownDesc.zy)).toNat = some s.ownDesc := by
  obtain ⟨hkind, hx, hy, -⟩ := (isSome_descOf _ _ _).1 h
  have hzx : (toByte (zoneNum s.ownDesc.zx)).toNat = byteAt s.blockBytes 19 := by
    rw [show s.ownDesc.zx = zoneOf (byteAt s.blockBytes 19) from rfl, zoneNum_zoneOf hx]
    exact toNat_toByte_of_lt (by omega)
  have hzy : (toByte (zoneNum s.ownDesc.zy)).toNat = byteAt s.blockBytes 20 := by
    rw [show s.ownDesc.zy = zoneOf (byteAt s.blockBytes 20) from rfl, zoneNum_zoneOf hy]
    exact toNat_toByte_of_lt (by omega)
  rw [hzx, hzy]
  obtain ⟨desc, hdesc⟩ := Option.isSome_iff_exists.1 h
  have hok (k : BayKind) (hk : byteAt s.blockBytes 18 = k.code) :
      descOk k (byteAt s.blockBytes 19) (byteAt s.blockBytes 20) = true := by
    rw [hk] at hdesc
    cases k <;> simp only [descOf, BayKind.code, Option.ite_none_right_eq_some] at hdesc
    · exact hdesc.2.1
    · exact hdesc.2.1
  have hset : s.ownDesc = ⟨if byteAt s.blockBytes 18 = 2 then .tie else .feeder, zoneOf (byteAt s.blockBytes 19),
      zoneOf (byteAt s.blockBytes 20)⟩ := rfl
  rcases hkind with hk | hk
  · rw [hset, hk]
    show descOf 1 _ _ = _
    simp [descOf, hx, hy, hok .feeder hk]
  · rw [hset, hk]
    show descOf 2 _ _ = _
    simp [descOf, hx, hy, hok .tie hk]

/-! ### The STATUS (R41) -/

/-- The body of a STATUS payload, from what its bytes name. -/
theorem statusBody_of {p : List Byte} {prot : ProtState} {desc : BayDesc} (hprot : protOf (byteAt p 5) = some prot)
    (hdesc : descOf (byteAt p 8) (byteAt p 9) (byteAt p 10) = some desc) (hauthority : byteAt p 14 ≤ 24) :
    statusBody p = some (.status prot desc (BitVec.ofNat 24 (u24At p 11)) (byteAt p 14) (byteAt p 15)
      (byteAt p 16)) := by
  simp [statusBody, hprot, hdesc, hauthority]

theorem State.authorityNum_le (hown : s.own = some n) : s.authorityNum ≤ 24 := by
  have hstrap := s.strap_of_own hown
  unfold State.authorityNum
  split
  · omega
  · omega
  next m _ => exact m.isLt

/-- The three bytes of a LIVE mask give the mask back. -/
theorem ofNat_maskBytes (m : BitVec 24) : BitVec.ofNat 24 ((toByte m.toNat).toNat + 256 * (toByte (m.toNat / 256)).toNat
    + 65536 * (toByte (m.toNat / 65536)).toNat) = m := by
  have hlt := m.isLt
  refine BitVec.eq_of_toNat_eq ?_
  rw [BitVec.toNat_ofNat, toNat_toByte, toNat_toByte, toNat_toByte]
  omega

/-- The STATUS carries what it was built from. -/
theorem State.statusPayload_carries (hown : s.own = some n) (hindex : s.clock.index < 48000)
    (hdescribed : (descOf (byteAt s.blockBytes 18) (byteAt s.blockBytes 19) (byteAt s.blockBytes 20)).isSome = true)
    (ha : s.link.paths.a.health ≤ 255) (hb : s.link.paths.b.health ≤ 255) : Carries s.statusPayload
      { sender := n, index := s.clock.index, sync := s.clock.sync, sig := s.ownSig,
        body := .status s.protState s.ownDesc s.roster.liveMask s.authorityNum s.link.paths.a.health
          s.link.paths.b.health } where
  long := by simp [State.statusPayload, le16]
  sender := s.toNat_strap hown
  index := ⟨toNat_le16 (by omega), hindex⟩
  sync := toNat_toByte_of_lt s.clock.sync.code_lt
  sig := toNat_le16 s.ownSig.isLt
  body rest := by
    have hprot : protOf (byteAt (s.statusPayload ++ rest) 5) = some s.protState := by
      show protOf (toByte s.protState.code).toNat = _
      cases s.protState <;> rfl
    have hauthorityLe := s.authorityNum_le hown
    have hauthority : byteAt (s.statusPayload ++ rest) 14 = s.authorityNum := toNat_toByte_of_lt (by omega)
    have hhealthA : byteAt (s.statusPayload ++ rest) 15 = s.link.paths.a.health := toNat_toByte_of_lt (by omega)
    have hhealthB : byteAt (s.statusPayload ++ rest) 16 = s.link.paths.b.health := toNat_toByte_of_lt (by omega)
    refine (statusBody_of hprot (s.descOf_ownDesc hdescribed) (by omega)).trans ?_
    rw [hauthority, hhealthA, hhealthB, show BitVec.ofNat 24 (u24At (s.statusPayload ++ rest) 11) = s.roster.liveMask
      from ofNat_maskBytes _]

theorem State.protState_iff : (s.protState = .faulted ↔ s.diff.fault = true)
    ∧ (s.protState = .active ↔ s.diff.fault = false ∧ s.protReadyOut = true) := by
  unfold State.protState
  cases s.diff.fault <;> cases s.protReadyOut <;> decide

end

/-! ### The SAMPLE frame (R39) -/

/-- The body of a SAMPLE payload, from what its bytes name. -/
theorem sampleBody_of {p : List Byte} {desc : BayDesc} {x y b : DPoint} {trip : TripState}
    (hdesc : descOf (byteAt p 8) (byteAt p 9) (byteAt p 11) = some desc) (hx : dpointOf (byteAt p 10) = some x)
    (hy : dpointOf (byteAt p 12) = some y) (hb : dpointOf (byteAt p 13) = some b)
    (htrip : tripOf (byteAt p 15) = some trip)
    (hchecks : byteAt p 5 < 32 ∧ byteAt p 14 < 16 ∧ bitOf (byteAt p 5) 4 = (byteAt p 14 != 0)
      ∧ (bitOf (byteAt p 5) 0 = true → u16At p 16 ≠ 32768 ∧ u16At p 18 ≠ 32768 ∧ u16At p 20 ≠ 32768)) :
    sampleBody p = some (.sample (bitOf (byteAt p 5) 0)
      ⟨bitOf (byteAt p 5) 1, bitOf (byteAt p 5) 2, bitOf (byteAt p 5) 3⟩
      (if bitOf (byteAt p 5) 0 then ⟨signed16 (u16At p 16), signed16 (u16At p 18), signed16 (u16At p 20)⟩ else .const 0)
      ⟨desc, ⟨x, y, b⟩, if byteAt p 14 = 0 then none else some (zoneSetOf (byteAt p 14)), trip⟩) := by
  simp only [sampleBody, hdesc, hx, hy, hb, htrip, Option.bind_eq_bind, Option.bind_some]
  exact if_pos hchecks

/-- The number of a list of bits. -/
theorem natOfBits_lt : ∀ l : List Bool, natOfBits l < 2 ^ l.length
  | [] => by simp [natOfBits]
  | b :: l => by
    have hlt := natOfBits_lt l
    have hbit : (if b then 1 else 0) ≤ 1 := by cases b <;> decide
    rw [natOfBits, List.length_cons, Nat.pow_succ]
    omega

/-- The flags of a SAMPLE frame, bit by bit. -/
theorem sampleFlags_bits (r : OwnRecord) (bf : Option ZoneSet) : (sampleFlags r bf).toNat < 32
    ∧ bitOf (sampleFlags r bf).toNat 0 = r.valid ∧ bitOf (sampleFlags r bf).toNat 1 = r.clamp.l1
    ∧ bitOf (sampleFlags r bf).toNat 2 = r.clamp.l2 ∧ bitOf (sampleFlags r bf).toNat 3 = r.clamp.l3
    ∧ bitOf (sampleFlags r bf).toNat 4 = bf.isSome := by
  have hlt := natOfBits_lt [r.valid, r.clamp.l1, r.clamp.l2, r.clamp.l3, bf.isSome]
  have hflags : (sampleFlags r bf).toNat = natOfBits [r.valid, r.clamp.l1, r.clamp.l2, r.clamp.l3, bf.isSome] :=
    toNat_toByte_of_lt (hlt.trans_le (show 2 ^ 5 ≤ 256 by decide))
  rw [hflags]
  refine ⟨hlt, ?_, ?_, ?_, ?_, ?_⟩ <;> rw [bitOf_eq_testBit, testBit_natOfBits] <;> rfl

/-- The mask of a set of zones gives the set back, and is 0 for the empty set alone. -/
theorem ZoneSet.mask_bits (z : ZoneSet) : z.mask < 16 ∧ zoneSetOf z.mask = z
    ∧ (z.nonempty = true → z.mask ≠ 0) := by
  obtain ⟨l, hl⟩ := z
  have hset : zoneSetOf (natOfBits l) = ⟨l, hl⟩ := by
    refine Tab.ext_get fun g => ?_
    rw [zoneSetOf, Tab.get_ofFn, bitOf_eq_testBit, testBit_natOfBits]
    simp [Tab.get, hl]
  refine ⟨?_, hset, fun hnonempty hzero => ?_⟩
  · have hlt := natOfBits_lt l
    rw [hl] at hlt
    exact hlt
  · obtain ⟨b, hb, htrue⟩ := List.any_eq_true.1 hnonempty
    obtain ⟨i, hi, rfl⟩ := List.getElem_of_mem hb
    have hbit := testBit_natOfBits l i
    rw [show natOfBits l = 0 from hzero, Nat.zero_testBit, List.getD_eq_getElem _ _ hi] at hbit
    exact absurd (htrue.symm.trans hbit.symm) (by decide)

/-- A clamped current goes over the wire unchanged, and not as the value that is never sent. -/
theorem signed16_unsigned16 {v : Int} (h : -32767 ≤ v ∧ v ≤ 32767) : unsigned16 v < 65536
    ∧ signed16 (unsigned16 v) = v ∧ unsigned16 v ≠ 32768 := by
  obtain ⟨hlow, hhigh⟩ := h
  have hmod : (v % 65536).toNat = if 0 ≤ v then v.toNat else (v + 65536).toNat := by
    split_ifs <;> omega
  unfold unsigned16 signed16
  rw [hmod]
  refine ⟨?_, ?_, ?_⟩ <;> split_ifs <;> omega

section

variable (s : State)

/-- The SAMPLE frame carries the record it was built from. -/
theorem State.samplePayload_carries {n : Station} {r : OwnRecord} (hown : s.own = some n) (hindex : r.index < 48000)
    (hdescribed : (descOf (byteAt s.blockBytes 18) (byteAt s.blockBytes 19) (byteAt s.blockBytes 20)).isSome = true)
    (h1 : -32767 ≤ r.cur.l1 ∧ r.cur.l1 ≤ 32767) (h2 : -32767 ≤ r.cur.l2 ∧ r.cur.l2 ≤ 32767)
    (h3 : -32767 ≤ r.cur.l3 ∧ r.cur.l3 ≤ 32767) (hzero : r.valid = false → r.cur = .const 0)
    (hbf : ∀ z ∈ s.trip.bfRequest, ZoneSet.nonempty z = true) : Carries (s.samplePayload r)
      { sender := n, index := r.index, sync := s.clock.sync, sig := s.ownSig,
        body := .sample r.valid r.clamp r.cur ⟨s.ownDesc, r.states, s.trip.bfRequest, s.trip.state⟩ } where
  long := by simp [State.samplePayload, le16]
  sender := s.toNat_strap hown
  index := ⟨toNat_le16 (by omega), hindex⟩
  sync := toNat_toByte_of_lt s.clock.sync.code_lt
  sig := toNat_le16 s.ownSig.isLt
  body rest := by
    obtain ⟨hflags, hvalid, hclamp1, hclamp2, hclamp3, hrequest⟩ := sampleFlags_bits r s.trip.bfRequest
    obtain ⟨hlt1, hsigned1, hne1⟩ := signed16_unsigned16 h1
    obtain ⟨hlt2, hsigned2, hne2⟩ := signed16_unsigned16 h2
    obtain ⟨hlt3, hsigned3, hne3⟩ := signed16_unsigned16 h3
    have hpoint (x : DPoint) : dpointOf (toByte x.code).toNat = some x := by cases x <;> rfl
    have htrip (x : TripState) : tripOf (toByte x.code).toNat = some x := by cases x <;> rfl
    have hcur1 : u16At (s.samplePayload r ++ rest) 16 = unsigned16 r.cur.l1 := toNat_le16 hlt1
    have hcur2 : u16At (s.samplePayload r ++ rest) 18 = unsigned16 r.cur.l2 := toNat_le16 hlt2
    have hcur3 : u16At (s.samplePayload r ++ rest) 20 = unsigned16 r.cur.l3 := toNat_le16 hlt3
    have hflag : byteAt (s.samplePayload r ++ rest) 5 = (sampleFlags r s.trip.bfRequest).toNat := rfl
    have hmask : byteAt (s.samplePayload r ++ rest) 14
        = (toByte ((s.trip.bfRequest.map ZoneSet.mask).getD 0)).toNat := rfl
    have hzones : byteAt (s.samplePayload r ++ rest) 14 < 16
        ∧ s.trip.bfRequest.isSome = (byteAt (s.samplePayload r ++ rest) 14 != 0)
        ∧ (if byteAt (s.samplePayload r ++ rest) 14 = 0 then none
            else some (zoneSetOf (byteAt (s.samplePayload r ++ rest) 14))) = s.trip.bfRequest := by
      rw [hmask]
      cases hz : s.trip.bfRequest with
      | none => decide
      | some z =>
        obtain ⟨hlt, hset, hne⟩ := z.mask_bits
        have hne := hne (hbf z hz)
        simp [toNat_toByte_of_lt (show z.mask < 256 by omega), hlt, hset, hne]
    obtain ⟨hmaskLt, hsome, hset⟩ := hzones
    refine (sampleBody_of (p := s.samplePayload r ++ rest) (s.descOf_ownDesc hdescribed) (hpoint r.states.x)
      (hpoint r.states.y) (hpoint r.states.breaker) (htrip s.trip.state) ⟨?_, hmaskLt, ?_, fun _ => ?_⟩).trans ?_
    · rw [hflag]
      exact hflags
    · rw [hflag, hrequest, hsome]
    · rw [hcur1, hcur2, hcur3]
      exact ⟨hne1, hne2, hne3⟩
    · rw [hflag, hvalid, hclamp1, hclamp2, hclamp3, hcur1, hcur2, hcur3, hsigned1, hsigned2, hsigned3, hset]
      have hcur : (if r.valid = true then (⟨r.cur.l1, r.cur.l2, r.cur.l3⟩ : PerPhase Int) else .const 0) = r.cur := by
        cases hvalidity : r.valid
        · exact (hzero hvalidity).symm
        · rfl
      rw [hcur]

/-! ### The slots of the paths (R42, R43) -/

theorem Link.get_both (l : Link) (f : PathCtl → PathCtl) (p : Path) : (l.both f).paths.get p = f (l.paths.get p) := by
  cases p <;> rfl

/-- The frame that answers a pending request, a QUERY before a STATUS (R43). -/
def State.requestFrame (s : State) : Option (List Byte) :=
  if s.link.queryPending then some (wireFrame s.header s.queryPayload)
  else if s.link.statusPending then some (wireFrame s.header s.statusPayload) else none

/-- A path with the frame of a request. -/
def PathCtl.placeRequest (f : Option (List Byte)) (p : PathCtl) : PathCtl :=
  if p.state = .down then p else { p with otherSlot := f.or p.otherSlot }

theorem PathCtl.placeRequest_some (f : List Byte) (p : PathCtl) : p.placeRequest (some f) = p.placeOther f := rfl

theorem PathCtl.placeRequest_none (p : PathCtl) : p.placeRequest none = p := by
  rw [PathCtl.placeRequest, Option.none_or]
  split_ifs <;> rfl

/-- One pending request is served. -/
theorem State.serveRequest_eq : s.serveRequest = { s with link := s.serveRequest.link }
    ∧ (∀ p, s.serveRequest.link.paths.get p = (s.link.paths.get p).placeRequest s.requestFrame)
    ∧ s.serveRequest.link.queryPending = false
    ∧ (s.serveRequest.link.statusPending = true ↔ s.link.statusPending = true ∧ s.link.queryPending = true) := by
  unfold State.serveRequest State.requestFrame
  cases hquery : s.link.queryPending
  · cases hstatus : s.link.statusPending
    · simp [PathCtl.placeRequest_none, hquery, hstatus]
    · simp [PathCtl.placeRequest_some, hquery, Link.both]
      exact fun p => by cases p <;> rfl
  · simp [Link.both]
    exact fun p => by cases p <;> rfl

theorem PathCtl.placeSample_kept (f : List Byte) (p : PathCtl) :
    (p.placeSample f).state = p.state ∧ (p.placeSample f).health = p.health := by
  unfold PathCtl.placeSample
  split_ifs <;> exact ⟨rfl, rfl⟩

theorem PathCtl.placeRequest_kept (f : Option (List Byte)) (p : PathCtl) :
    (p.placeRequest f).state = p.state ∧ (p.placeRequest f).health = p.health := by
  unfold PathCtl.placeRequest
  split_ifs <;> exact ⟨rfl, rfl⟩

theorem PathCtl.begin_kept (p : PathCtl) : p.begin.state = p.state ∧ p.begin.health = p.health := by
  unfold PathCtl.begin
  split <;> exact ⟨rfl, rfl⟩

/-- The placing of the SAMPLE frame leaves the request's frame as it was. -/
theorem State.requestFrame_placed (f : List Byte) :
    State.requestFrame { s with link := s.link.both (PathCtl.placeSample f) } = s.requestFrame := by
  have hstatus : State.statusPayload { s with link := s.link.both (PathCtl.placeSample f) } = s.statusPayload := by
    have ha : ({ s with link := s.link.both (PathCtl.placeSample f) } : State).link.paths.a.health
        = s.link.paths.a.health := (s.link.paths.a.placeSample_kept f).2
    have hb : ({ s with link := s.link.both (PathCtl.placeSample f) } : State).link.paths.b.health
        = s.link.paths.b.health := (s.link.paths.b.placeSample_kept f).2
    rw [State.statusPayload, ha, hb]
    rfl
  rw [State.requestFrame, hstatus]
  rfl

/-- A path that is not DOWN with both frames placed: one that sends nothing begins the SAMPLE frame. -/
theorem PathCtl.begin_placed {p : PathCtl} (h : p.state ≠ .down) (f : List Byte) (other : Option (List Byte)) :
    (((p.placeSample f).placeRequest other).begin).otherSlot = other.or p.otherSlot
      ∧ (p.sending = none → (((p.placeSample f).placeRequest other).begin).sampleSlot = none
        ∧ (((p.placeSample f).placeRequest other).begin).sending = some (.sample, f))
      ∧ ∀ x, p.sending = some x → (((p.placeSample f).placeRequest other).begin).sending = some x
        ∧ (((p.placeSample f).placeRequest other).begin).sampleSlot = some f := by
  have hplaced : (p.placeSample f).placeRequest other
      = { p with sampleSlot := some f, otherSlot := other.or p.otherSlot } := by
    rw [PathCtl.placeSample, if_neg h]
    exact if_neg h
  rw [hplaced]
  cases hsending : p.sending with
  | none => simp [PathCtl.begin]
  | some x => simp [PathCtl.begin]

end

/-- Settles O28: the three payloads by what they carry, and the slots of one path. -/
theorem sampleFrameRoundTrip : Obligations.SampleFrameRoundTrip := by
  unfold Obligations.SampleFrameRoundTrip
  refine ⟨fun s n hown hblock => ?_, fun s r hrun => ?_⟩
  · dsimp only
    refine ⟨fun r hdescribed hindex h1 h2 h3 hzero hbf => s.accepts_wireFrame hblock
        (s.samplePayload_carries hown hindex hdescribed h1 h2 h3 hzero hbf),
      fun hindex => s.accepts_wireFrame hblock (s.queryPayload_carries hown hindex),
      fun hindex hdescribed ha hb => s.accepts_wireFrame hblock
        (s.statusPayload_carries hown hindex hdescribed ha hb),
      s.protState_iff.1, s.protState_iff.2, s.getLsbD_liveMask, fun h => ?_, fun h => ?_, fun m h => ?_⟩ <;>
      rw [State.authorityNum, h]
    exact s.strap_of_own hown
  · dsimp only
    obtain ⟨f, hf⟩ : ∃ f, f = wireFrame s.header (s.samplePayload r) := ⟨_, rfl⟩
    obtain ⟨hserve, hpaths, hquery, hstatus⟩ :=
      State.serveRequest_eq { s with link := s.link.both (PathCtl.placeSample f) }
    have hsend : s.sendRecord r = { s with link :=
        (State.serveRequest { s with link := s.link.both (PathCtl.placeSample f) }).link.both PathCtl.begin } := by
      rw [State.sendRecord, if_pos hrun, ← hf]
      dsimp only
      rw [hserve]
    rw [s.requestFrame_placed f] at hpaths
    rw [hsend, ← hf]
    refine ⟨rfl, hquery, hstatus, fun p => ?_⟩
    dsimp only
    rw [Link.get_both, hpaths, Link.get_both]
    generalize s.link.paths.get p = q
    obtain ⟨hstate, hhealth⟩ := ((q.placeSample f).placeRequest s.requestFrame).begin_kept
    obtain ⟨hstateRequest, hhealthRequest⟩ := (q.placeSample f).placeRequest_kept s.requestFrame
    obtain ⟨hstateSample, hhealthSample⟩ := q.placeSample_kept f
    exact ⟨hstate.trans (hstateRequest.trans hstateSample), hhealth.trans (hhealthRequest.trans hhealthSample),
      fun h => PathCtl.begin_placed h f s.requestFrame⟩

end Sys2Proof.Machine
end

section
/-! PROOFS. The Zone Replica: what it knows of a station after a closure and END_OPEN (R96 to R101), the shape of the
member lists (R104 to R106), and the groups with their names, requests and changes (R102, R103, R107 to R112). -/

namespace Sys2Proof.Machine

/-! ### What is known of a station (R96 to R101) -/

section

variable (s : State) (k : Nat) (n : Station)

/-- A slot that is usable for confirmation: it is held, read well, has a status and offers a contribution (R96). -/
theorem State.usableAt_eq_some_iff (c : Contribution) : s.usableAt k n = some c ↔
    ∃ h, s.asm.history.find? (fun x => x.index == k) = some h ∧ (h.slots.get n).parityBad = false
      ∧ (h.slots.get n).status ≠ none ∧ (h.slots.get n).contr = some c := by
  have hread (h : ClosedSet) : (h.read n).usable = some c ↔ (h.slots.get n).parityBad = false
      ∧ (h.slots.get n).status ≠ none ∧ (h.slots.get n).contr = some c := by
    cases hparity : (h.slots.get n).parityBad <;>
      simp [ClosedSet.read, ClosedSlot.deliver, ClosedSlot.usable, hparity, Option.isSome_iff_ne_none]
  rw [State.usableAt, State.histSet]
  cases s.asm.history.find? fun x => x.index == k with
  | none => simp
  | some h => simp [hread]

theorem Entry.startsUnknown_iff (e : Entry) : e.startsUnknown = true ↔
    e.state = .absent ∨ e.state = .excluded ∨ e.excludedBefore = true := by
  cases hstate : e.state <;> simp [Entry.startsUnknown, hstate, PeerState.discards]

/-- What the replica starts a peer's closure from (R99). -/
def State.knownBase (s : State) (n : Station) : Known :=
  if (s.entry n).state = .absent ∨ (s.entry n).state = .excluded ∨ (s.entry n).excludedBefore = true then Known.initial
  else s.replica.known.get n

theorem State.describe_own (h : s.isOwn n = true) :
    s.describe k n = { s.replica.known.get n with desc := some s.ownDesc } := by
  rw [State.describe]
  exact if_pos h

theorem State.describe_peer (h : s.isOwn n = false) :
    s.describe k n = (s.knownBase n).confirmDesc (s.usableAt ((k + 47999) % 48000) n) (s.usableAt k n) := by
  rw [State.describe, State.knownBase, indexBefore_one]
  simp only [h, Bool.false_eq_true, if_false, Entry.startsUnknown_iff]

end

section

variable (kn : Known) (a b : Option Contribution)

/-- A description that two usable slots agree on and that is new is confirmed; nothing else changes it (R97). -/
theorem Known.confirmDesc_cases :
    (∀ p c, a = some p → b = some c → p.bay.desc = c.bay.desc → kn.desc ≠ some c.bay.desc →
        kn.confirmDesc a b = ⟨some c.bay.desc, ⟨none, none, none⟩, none, false⟩)
      ∧ (¬(∃ p c, a = some p ∧ b = some c ∧ p.bay.desc = c.bay.desc ∧ kn.desc ≠ some c.bay.desc) →
        kn.confirmDesc a b = kn) := by
  refine ⟨?_, fun hnot => ?_⟩
  · rintro p c rfl rfl hsame hnew
    exact if_pos ⟨hsame, hnew⟩
  · cases a with
    | none => rfl
    | some p =>
      cases b with
      | none => rfl
      | some c => exact if_neg fun h => hnot ⟨p, c, rfl, rfl, h⟩

/-- The points that two usable slots under the station's description agree on are confirmed (R98). -/
theorem Known.confirmPoints_cases : (kn.confirmPoints a b).desc = kn.desc
    ∧ (kn.confirmPoints a b).openRun = kn.openRun
    ∧ (∀ p c, a = some p → b = some c → kn.desc = some p.bay.desc → kn.desc = some c.bay.desc →
        ∀ d : Device, (kn.confirmPoints a b).conf.get d
          = if p.bay.states.get d = c.bay.states.get d then some (c.bay.states.get d) else kn.conf.get d)
    ∧ (¬(∃ p c, a = some p ∧ b = some c ∧ kn.desc = some p.bay.desc ∧ kn.desc = some c.bay.desc) →
        kn.confirmPoints a b = kn) := by
  cases a with
  | none => exact ⟨rfl, rfl, fun p c h => absurd h (by simp), fun _ => rfl⟩
  | some p =>
    cases b with
    | none => exact ⟨rfl, rfl, fun p c _ h => absurd h (by simp), fun _ => rfl⟩
    | some c =>
      by_cases hboth : kn.desc = some p.bay.desc ∧ kn.desc = some c.bay.desc
      · have hconfirm : kn.confirmPoints (some p) (some c) = { kn with conf :=
            ⟨confirmPoint kn.conf.x p.bay.states.x c.bay.states.x,
             confirmPoint kn.conf.y p.bay.states.y c.bay.states.y,
             confirmPoint kn.conf.breaker p.bay.states.breaker c.bay.states.breaker⟩ } := if_pos hboth
        rw [hconfirm]
        refine ⟨rfl, rfl, ?_, fun h => absurd ⟨p, c, rfl, rfl, hboth⟩ h⟩
        rintro _ _ ⟨⟩ ⟨⟩ _ _ d
        have hpoint (old : Option DPoint) (v w : DPoint) :
            confirmPoint old v w = if v = w then some w else old := by
          unfold confirmPoint
          split_ifs with h
          · rw [h]
          · rfl
        cases d <;> exact hpoint _ _ _
      · have hstays : kn.confirmPoints (some p) (some c) = kn := if_neg hboth
        rw [hstays]
        refine ⟨rfl, rfl, ?_, fun _ => rfl⟩
        rintro _ _ ⟨⟩ ⟨⟩ hp hc
        exact absurd ⟨hp, hc⟩ hboth

theorem Known.isTie_iff : kn.isTie = true ↔ ∃ d, kn.desc = some d ∧ d.kind = .tie := by
  unfold Known.isTie
  cases kn.desc <;> simp

theorem Known.isFeeder_iff : kn.isFeeder = true ↔ ∃ d, kn.desc = some d ∧ d.kind = .feeder := by
  unfold Known.isFeeder
  cases kn.desc <;> simp

theorem endOpenOf_iff (tend : Nat) (r : Option Nat) : endOpenOf tend r = true ↔ ∃ n, r = some n ∧ tend ≤ n := by
  cases r <;> simp [endOpenOf]

/-- The open-run of a tie with its breaker confirmed OPEN, and end-open (R101). -/
theorem Known.advanceRun_cases (wasOpen : Bool) (tend : Nat) : (kn.advanceRun wasOpen tend).desc = kn.desc
    ∧ (kn.advanceRun wasOpen tend).conf = kn.conf
    ∧ ((∃ d, kn.desc = some d ∧ d.kind = .tie) → kn.conf.breaker = some .opened →
        (kn.advanceRun wasOpen tend).openRun
          = if wasOpen then kn.openRun.map fun r => min 48 (r + 1) else some 0)
    ∧ (¬((∃ d, kn.desc = some d ∧ d.kind = .tie) ∧ kn.conf.breaker = some .opened) →
        (kn.advanceRun wasOpen tend).openRun = none)
    ∧ ((kn.advanceRun wasOpen tend).endOpen = true ↔
        ∃ r, (kn.advanceRun wasOpen tend).openRun = some r ∧ tend ≤ r) := by
  have hruns : (kn.isTie && kn.conf.breaker == some .opened) = true
      ↔ (∃ d, kn.desc = some d ∧ d.kind = .tie) ∧ kn.conf.breaker = some .opened := by
    rw [Bool.and_eq_true, kn.isTie_iff, beq_iff_eq]
  refine ⟨rfl, rfl, fun htie hopen => ?_, fun hnot => ?_, endOpenOf_iff tend _⟩
  · have hrun : (kn.advanceRun wasOpen tend).openRun = if wasOpen then kn.openRun.map (satInc 48) else some 0 :=
      if_pos (hruns.2 ⟨htie, hopen⟩)
    rw [hrun, show satInc 48 = fun r => min 48 (r + 1) from funext (satInc_eq_min_succ 48)]
  · exact if_neg (mt hruns.1 hnot)

end

/-- Settles O34: the row, the reading of a slot, and steps 2 to 4 one after the other. -/
theorem endOpen : Obligations.EndOpen := by
  unfold Obligations.EndOpen
  refine ⟨fun s n d r hworking hdesc hkind hrun hreached => ?_, fun s k n => s.usableAt_eq_some_iff k n,
    fun s k n hk => ?_⟩
  · have hrow : (s.working && (s.replica.known.get n).isTie && endOpenOf s.tend (s.replica.known.get n).openRun)
        = true := by
      rw [hworking, ((s.replica.known.get n).isTie_iff).2 ⟨d, hdesc, hkind⟩,
        (endOpenOf_iff s.tend _).2 ⟨r, hrun, hreached⟩]
      rfl
    refine ⟨({ s with replica := { s.replica with
      known := s.replica.known.set n { s.replica.known.get n with endOpen := true } } } : State).driven, ?_, ?_, ?_,
      rfl⟩
    · rw [exec, execEndOpen, answer_eq]
      exact congrArg (fun t : State => Host.Outcome.next t.driven) (if_pos hrow)
    · exact (Tab.get_set ..).trans (if_pos rfl)
    · exact fun m hm => (Tab.get_set ..).trans (if_neg hm)
  · dsimp only
    obtain ⟨hpointsDesc, hpointsRun, hpoints, hpointsStay⟩ := (s.describe k n).confirmPoints_cases
      (s.usableAt ((k + 47999) % 48000) n) (s.usableAt k n)
    have hlearn : s.learn k n = ((s.describe k n).confirmPoints (s.usableAt ((k + 47999) % 48000) n)
        (s.usableAt k n)).advanceRun ((s.describe k n).conf.breaker == some .opened) s.tend := by
      rw [State.learn, indexBefore_one]
    obtain ⟨hdesc, hconf, hopen, hclosed, hend⟩ := ((s.describe k n).confirmPoints
      (s.usableAt ((k + 47999) % 48000) n) (s.usableAt k n)).advanceRun_cases
      ((s.describe k n).conf.breaker == some .opened) s.tend
    rw [← hlearn] at hdesc hconf hopen hclosed hend
    rw [← hdesc, ← hconf] at hopen hclosed
    refine ⟨fun h => ?_, fun h => ?_, s.describe_own k n, fun h => ?_, hdesc.trans hpointsDesc, ?_, fun hnot => ?_,
      fun htie hbreaker => ⟨fun hwas => ?_, fun hwas => ?_⟩, hclosed, hend⟩
    · rw [State.learnAll, Tab.get_ofFn, if_pos h]
    · rw [State.learnAll, Tab.get_ofFn, if_neg (by simp [h])]
    · rw [s.describe_peer k n h]
      exact (s.knownBase n).confirmDesc_cases _ _
    · rw [hconf]
      exact hpoints
    · rw [hconf, hpointsStay hnot]
    · rw [hopen htie hbreaker, if_neg (by simpa using hwas)]
    · rw [hopen htie hbreaker, if_pos (by simpa using hwas), hpointsRun]

/-! ### The partition (R102, R103) -/

/-- A naming of zones says which zones a relation connects, and names each class by its lowest zone or one below. -/
structure Names (p : Tab 4 Zone) (r : Zone → Zone → Prop) : Prop where
  same : ∀ a b, p.get a = p.get b ↔ Relation.EqvGen r a b
  idem : ∀ z, p.get (p.get z) = p.get z
  low : ∀ z, p.get z ≤ z

/-- Without a feeder each zone is its own group. -/
theorem names_id : Names (.ofFn id) fun _ _ => False where
  same a b := by
    rw [Tab.get_ofFn, Tab.get_ofFn]
    refine ⟨fun h => ?_, fun h => ?_⟩
    · rw [id, id] at h
      rw [h]
      exact .refl _
    · induction h with
      | rel _ _ h => exact h.elim
      | refl => rfl
      | symm _ _ _ ih => exact ih.symm
      | trans _ _ _ _ _ ih1 ih2 => exact ih1.trans ih2
  idem z := by simp
  low z := by simp

/-- The connection of a relation is the same for relations that hold of the same zones. -/
theorem Names.congr {p : Tab 4 Zone} {r q : Zone → Zone → Prop} (h : Names p r) (hrq : ∀ a b, r a b ↔ q a b) :
    Names p q := by
  rwa [show q = r from funext fun a => funext fun b => (propext (hrq a b)).symm]

section

variable {p : Tab 4 Zone} {r : Zone → Zone → Prop} (x y : Zone)

/-- The name of a zone after a join. -/
theorem joinZones_get (p : Tab 4 Zone) (z : Zone) : (joinZones p x y).get z
    = if p.get z = max (p.get x) (p.get y) then min (p.get x) (p.get y) else p.get z := by
  rw [joinZones, Tab.get_ofFn]

/-- After a join the two zones have the lower name. -/
theorem joinZones_sides (p : Tab 4 Zone) : (joinZones p x y).get x = min (p.get x) (p.get y)
    ∧ (joinZones p x y).get y = min (p.get x) (p.get y) := by
  rw [joinZones_get, joinZones_get]
  rcases le_total (p.get x) (p.get y) with h | h
  · rw [max_eq_right h, min_eq_left h]
    exact ⟨ite_self _, if_pos rfl⟩
  · rw [max_eq_left h, min_eq_right h]
    exact ⟨if_pos rfl, ite_self _⟩

/-- A join adds one connection. -/
theorem Names.join (h : Names p r) : Names (joinZones p x y) fun a b => r a b ∨ (a = x ∧ b = y) := by
  have hmono {a b : Zone} (hab : p.get a = p.get b) : Relation.EqvGen (fun a b => r a b ∨ (a = x ∧ b = y)) a b :=
    Relation.EqvGen.mono (fun _ _ => Or.inl) a b ((h.same a b).1 hab)
  have hname (z : Zone) : Relation.EqvGen (fun a b => r a b ∨ (a = x ∧ b = y)) z (p.get z) := hmono (h.idem z).symm
  have hsides : Relation.EqvGen (fun a b => r a b ∨ (a = x ∧ b = y)) (p.get x) (p.get y) :=
    .trans _ _ _ (hname x).symm (.trans _ _ _ (.rel _ _ (.inr ⟨rfl, rfl⟩)) (hname y))
  have hlowHigh : Relation.EqvGen (fun a b => r a b ∨ (a = x ∧ b = y)) (max (p.get x) (p.get y))
      (min (p.get x) (p.get y)) := by
    rcases le_total (p.get x) (p.get y) with hle | hle
    · rw [max_eq_right hle, min_eq_left hle]
      exact hsides.symm
    · rw [max_eq_left hle, min_eq_right hle]
      exact hsides
  have hlow : p.get (min (p.get x) (p.get y)) = min (p.get x) (p.get y) := by
    rcases min_choice (p.get x) (p.get y) with hmin | hmin <;> rw [hmin, h.idem]
  have hjoined (z : Zone) : Relation.EqvGen (fun a b => r a b ∨ (a = x ∧ b = y)) z ((joinZones p x y).get z) := by
    rw [joinZones_get]
    split_ifs with hz
    · exact .trans _ _ _ (hname z) (hz ▸ hlowHigh)
    · exact hname z
  refine ⟨fun a b => ⟨fun hab => ?_, fun hab => ?_⟩, fun z => ?_, fun z => ?_⟩
  · exact .trans _ _ _ (hjoined a) (hab ▸ (hjoined b).symm)
  · induction hab with
    | rel a b hedge =>
      rcases hedge with hedge | ⟨rfl, rfl⟩
      · rw [joinZones_get, joinZones_get, (h.same a b).2 (.rel _ _ hedge)]
      · obtain ⟨hx, hy⟩ := joinZones_sides a b p
        rw [hx, hy]
    | refl => rfl
    | symm _ _ _ ih => exact ih.symm
    | trans _ _ _ _ _ ih1 ih2 => exact ih1.trans ih2
  · rw [joinZones_get x y p z]
    split_ifs with hz
    · rw [joinZones_get, hlow]
      exact ite_self _
    · rw [joinZones_get, h.idem, if_neg hz]
  · rw [joinZones_get]
    split_ifs with hz
    · exact (min_le_max.trans_eq hz.symm).trans (h.low z)
    · exact h.low z

end

/-- A feeder of known attachment with both sides attached connects its two zones (R102). -/
def State.Connects (s : State) (known : Tab 24 Known) (n : Station) (a b : Zone) : Prop :=
  s.attachKnown known n = true ∧ (known.get n).isFeeder = true ∧ (known.get n).sideX = some a
    ∧ (known.get n).sideY = some b

section

variable (s : State) (known : Tab 24 Known)

/-- The join a station makes adds its connection. -/
theorem State.joinOf_names {p : Tab 4 Zone} {r : Zone → Zone → Prop} (h : Names p r) (n : Station) :
    Names (s.joinOf known p n) fun a b => r a b ∨ s.Connects known n a b := by
  by_cases hsides : ∃ x y, s.Connects known n x y
  · obtain ⟨x, y, hconnects⟩ := hsides
    have hedges (a b : Zone) : s.Connects known n a b ↔ a = x ∧ b = y := by
      obtain ⟨hknown, hfeeder, hx, hy⟩ := hconnects
      rw [State.Connects, hknown, hfeeder, hx, hy]
      simp [eq_comm]
    obtain ⟨hknown, hfeeder, hx, hy⟩ := hconnects
    have hjoin : s.joinOf known p n = joinZones p x y := by
      simp [State.joinOf, hx, hy, hknown, hfeeder]
    rw [hjoin]
    exact (h.join x y).congr fun a b => or_congr_right (hedges a b).symm
  · have hjoin : s.joinOf known p n = p := by
      unfold State.joinOf
      dsimp only
      split
      next x y hx hy =>
        refine if_neg fun hboth => hsides ⟨x, y, ?_⟩
        obtain ⟨hknown, hfeeder⟩ := Bool.and_eq_true_iff.1 hboth
        exact ⟨hknown, hfeeder, hx, hy⟩
      · rfl
      · rfl
    rw [hjoin]
    exact h.congr fun a b => (or_iff_left fun hconnects => hsides ⟨a, b, hconnects⟩).symm

/-- The joins of a list of stations add the connections of its stations. -/
theorem State.foldl_joinOf_names (l : List Station) {p : Tab 4 Zone} {r : Zone → Zone → Prop} (h : Names p r) :
    Names (l.foldl (fun p n => s.joinOf known p n) p) fun a b => r a b ∨ ∃ n ∈ l, s.Connects known n a b := by
  induction l generalizing p r with
  | nil => exact h.congr fun a b => by simp
  | cons n l ih => exact (ih (s.joinOf_names known h n)).congr fun a b => by simp [or_assoc]

/-- The partition names the classes that the feeders connect. -/
theorem State.partition_names : Names (s.partition known) fun a b => ∃ n, s.Connects known n a b :=
  (s.foldl_joinOf_names known stations names_id).congr fun a b => by simp

/-- A feeder of known attachment has its attached sides in one group. -/
theorem State.partition_connects {n : Station} {x y : Zone} (h : s.Connects known n x y) :
    (s.partition known).get x = (s.partition known).get y :=
  ((s.partition_names known).same x y).2 (.rel _ _ ⟨n, h⟩)

end

/-! ### Lists in ascending station number -/

theorem stations_pairwise : stations.Pairwise (· < ·) := List.pairwise_lt_finRange 24

/-- A list in ascending order of a key holds a key at most once. -/
theorem length_filter_le_one {α : Type} {f : α → Station} {l : List α} (h : l.Pairwise fun a b => f a < f b)
    (n : Station) : (l.filter fun a => f a == n).length ≤ 1 := by
  have hfiltered := h.filter fun a => f a == n
  have hkey : ∀ a ∈ l.filter fun a => f a == n, f a = n := fun a ha => by simpa using (List.mem_filter.1 ha).2
  match hlist : l.filter fun a => f a == n with
  | [] => exact Nat.zero_le 1
  | [_] => exact le_refl 1
  | a :: b :: rest =>
    rw [hlist] at hfiltered hkey
    have hlt : f a < f b := List.rel_of_pairwise_cons hfiltered (by simp)
    rw [hkey a (by simp), hkey b (by simp)] at hlt
    exact absurd hlt (lt_irrefl n)

/-! ### Signs and members (R104 to R106) -/

section

variable (p : Tab 4 Zone) (kn : Known) (g : Zone) (plus : Bool)

theorem feederSign_eq_some_iff : feederSign p kn g = some plus ↔
    plus = true ∧ ∃ z, kn.sideX.or kn.sideY = some z ∧ p.get z = g := by
  unfold feederSign
  cases kn.sideX.or kn.sideY with
  | none => simp
  | some z =>
    dsimp only
    split_ifs with h
    · simp [h, eq_comm]
    · simp [h]

theorem tieSign_eq_some_iff : tieSign p kn g = some plus ↔ ∃ x y, kn.sideX = some x ∧ kn.sideY = some y
    ∧ p.get x ≠ p.get y ∧ kn.endOpen = false ∧ ((plus = false ∧ p.get x = g) ∨ (plus = true ∧ p.get y = g)) := by
  unfold tieSign
  cases hx : kn.sideX with
  | none => simp
  | some x =>
    cases hy : kn.sideY with
    | none => simp
    | some y =>
      simp only [Option.some_inj, exists_and_left, exists_eq_left']
      by_cases hboth : p.get x = p.get y ∨ kn.endOpen = true
      · rw [if_pos hboth]
        rcases hboth with h | h <;> simp [h]
      · obtain ⟨hdiffer, hclosed⟩ := not_or.1 hboth
        rw [if_neg hboth]
        by_cases hgx : p.get x = g
        · have hgy : p.get y ≠ g := fun h => hdiffer (hgx.trans h.symm)
          simp [hclosed, hgx, hgy, Ne.symm hgy, eq_comm]
        · by_cases hgy : p.get y = g
          · simp [hclosed, hgx, hgy, eq_comm]
          · simp [hgx, hgy]

end

section

variable (s : State) (known : Tab 24 Known)

/-- The members of a group are the stations with a sign in it. -/
theorem State.mem_members_iff (g : Zone) (e : Member) : e ∈ (s.membershipOf known).members.get g ↔
    s.memberSign known (s.partition known) g e.station = some e.plus := by
  obtain ⟨n, plus⟩ := e
  rw [State.membershipOf, Tab.get_ofFn, State.memberList]
  simp only [List.mem_filterMap, mem_stations, true_and, Option.map_eq_some_iff, Member.mk.injEq]
  constructor
  · rintro ⟨m, b, hsign, rfl, rfl⟩
    exact hsign
  · exact fun hsign => ⟨n, plus, hsign, rfl, rfl⟩

theorem State.mem_check_iff (n : Station) : n ∈ (s.membershipOf known).check ↔
    s.attachKnown known n = true ∧ (known.get n).isFeeder = true ∧ (known.get n).attachedSome = true := by
  rw [State.membershipOf, State.checkList, List.mem_filter]
  simp [and_assoc]

theorem State.members_pairwise (g : Zone) :
    ((s.membershipOf known).members.get g).Pairwise fun a b => a.station < b.station := by
  rw [State.membershipOf, Tab.get_ofFn, State.memberList, List.pairwise_filterMap]
  refine stations_pairwise.imp fun hlt a ha b hb => ?_
  obtain ⟨_, -, rfl⟩ := Option.map_eq_some_iff.1 ha
  obtain ⟨_, -, rfl⟩ := Option.map_eq_some_iff.1 hb
  exact hlt

theorem State.members_length (g : Zone) : ((s.membershipOf known).members.get g).length ≤ 24 := by
  rw [State.membershipOf, Tab.get_ofFn]
  exact (List.length_filterMap_le _ _).trans_eq (List.length_finRange)

theorem State.check_pairwise : (s.membershipOf known).check.Pairwise fun a b => a < b := by
  exact (stations_pairwise.filter fun n =>
    s.attachKnown known n && (known.get n).isFeeder && (known.get n).attachedSome :)

theorem State.check_length : (s.membershipOf known).check.length ≤ 24 :=
  (List.length_filter_le _ _).trans_eq (List.length_finRange)

/-- A station of unknown attachment has no sign. -/
theorem State.memberSign_unknown (p : Tab 4 Zone) (g : Zone) {n : Station} (h : s.attachKnown known n = false) :
    s.memberSign known p g n = none := by
  simp [State.memberSign, h]

theorem State.memberSign_tie (p : Tab 4 Zone) (g : Zone) {n : Station} (h : s.attachKnown known n = true)
    (htie : (known.get n).isTie = true) : s.memberSign known p g n = tieSign p (known.get n) g := by
  simp [State.memberSign, h, htie]

theorem Known.isTie_of_isFeeder {kn : Known} (h : kn.isFeeder = true) : kn.isTie = false := by
  obtain ⟨d, hdesc, hkind⟩ := kn.isFeeder_iff.1 h
  rw [Bool.eq_false_iff]
  intro htie
  obtain ⟨d', hdesc', hkind'⟩ := kn.isTie_iff.1 htie
  cases hdesc.symm.trans hdesc'
  exact absurd (hkind.symm.trans hkind') (by decide)

theorem State.memberSign_feeder (p : Tab 4 Zone) (g : Zone) {n : Station} (h : s.attachKnown known n = true)
    (hfeeder : (known.get n).isFeeder = true) : s.memberSign known p g n = feederSign p (known.get n) g := by
  simp [State.memberSign, h, Known.isTie_of_isFeeder hfeeder]

/-- A member of known attachment: what its sign says of its sides, by its kind. -/
theorem State.member_sign {g : Zone} {e : Member} (he : e ∈ (s.membershipOf known).members.get g) :
    s.attachKnown known e.station = true
      ∧ ((known.get e.station).isFeeder = true → e.plus = true
        ∧ ∃ z, (known.get e.station).sideX.or (known.get e.station).sideY = some z ∧ (s.partition known).get z = g)
      ∧ ((known.get e.station).isTie = true → ∃ x y, (known.get e.station).sideX = some x
        ∧ (known.get e.station).sideY = some y ∧ (s.partition known).get x ≠ (s.partition known).get y
        ∧ (known.get e.station).endOpen = false
        ∧ ((e.plus = false ∧ (s.partition known).get x = g) ∨ (e.plus = true ∧ (s.partition known).get y = g))) := by
  rw [s.mem_members_iff known] at he
  cases hknown : s.attachKnown known e.station
  · rw [s.memberSign_unknown known _ _ hknown] at he
    cases he
  · refine ⟨rfl, fun hfeeder => ?_, fun htie => ?_⟩
    · rw [s.memberSign_feeder known _ _ hknown hfeeder] at he
      exact (feederSign_eq_some_iff _ _ _ _).1 he
    · rw [s.memberSign_tie known _ _ hknown htie] at he
      exact (tieSign_eq_some_iff _ _ _ _).1 he

/-- A feeder is in the group of each attached side: its sides are in one group. -/
theorem State.feeder_member {n : Station} (hknown : s.attachKnown known n = true)
    (hfeeder : (known.get n).isFeeder = true) {z : Zone}
    (hz : (known.get n).sideX = some z ∨ (known.get n).sideY = some z) :
    ⟨n, true⟩ ∈ (s.membershipOf known).members.get ((s.partition known).get z)
      ∧ n ∈ (s.membershipOf known).check := by
  rw [s.mem_members_iff known, s.mem_check_iff known, s.memberSign_feeder known _ _ hknown hfeeder,
    feederSign_eq_some_iff]
  refine ⟨⟨rfl, ?_⟩, hknown, hfeeder, ?_⟩
  · cases hx : (known.get n).sideX with
    | none => exact ⟨z, by simpa [hx] using hz, rfl⟩
    | some x =>
      refine ⟨x, rfl, ?_⟩
      rcases hz with h | h
      · rw [hx] at h
        cases h
        rfl
      · exact s.partition_connects known ⟨hknown, hfeeder, hx, h⟩
  · rcases hz with h | h <;> simp [Known.attachedSome, h]

/-- A station that has no sign in any group, and is no feeder with an attached side, is nowhere. -/
theorem State.nowhere {n : Station} (hsign : ∀ g, s.memberSign known (s.partition known) g n = none)
    (hcheck : ¬(s.attachKnown known n = true ∧ (known.get n).isFeeder = true ∧ (known.get n).attachedSome = true)) :
    (∀ g e, e ∈ (s.membershipOf known).members.get g → e.station ≠ n) ∧ n ∉ (s.membershipOf known).check := by
  refine ⟨?_, fun h => hcheck ((s.mem_check_iff known n).1 h)⟩
  rintro g e he rfl
  rw [s.mem_members_iff known, hsign] at he
  cases he

theorem State.attachKnown_iff (n : Station) : s.attachKnown known n = true ↔ s.inPop n = true
    ∧ (s.isOwn n = true ∨ (s.entry n).state = .joining ∨ (s.entry n).state = .live ∨ (s.entry n).state = .silent)
    ∧ ∃ d, (known.get n).desc = some d := by
  have hheld : (!(s.entry n).state.discards) = true ↔
      (s.entry n).state = .joining ∨ (s.entry n).state = .live ∨ (s.entry n).state = .silent := by
    cases (s.entry n).state <;> decide
  rw [State.attachKnown, Bool.and_eq_true, Bool.and_eq_true, Bool.or_eq_true, hheld, Option.isSome_iff_exists,
    and_assoc]

theorem Known.sideX_eq_some_iff (kn : Known) (z : Zone) : kn.sideX = some z ↔
    kn.conf.x ≠ some .opened ∧ ∃ d, kn.desc = some d ∧ d.zx = some z := by
  unfold Known.sideX attachedSide
  cases kn.desc <;> simp

theorem Known.sideY_eq_some_iff (kn : Known) (z : Zone) : kn.sideY = some z ↔
    kn.conf.y ≠ some .opened ∧ ∃ d, kn.desc = some d ∧ d.zy = some z := by
  unfold Known.sideY attachedSide
  cases kn.desc <;> simp

end

/-- Settles O35: the lists by their order, the feeders and the ties by their signs. -/
theorem membershipShape : Obligations.MembershipShape := by
  unfold Obligations.MembershipShape
  intro s known n
  dsimp only
  refine ⟨fun g => length_filter_le_one (s.members_pairwise known g) n,
    length_filter_le_one (f := id) (s.check_pairwise known) n,
    fun g => ⟨s.members_pairwise known g, s.members_length known g⟩, s.check_pairwise known, s.check_length known,
    fun hfeeder => ⟨?_, ?_⟩, fun htie => ⟨?_, ?_⟩, fun hknown hfeeder => ⟨fun z => s.feeder_member known hknown hfeeder,
      fun hx hy => s.nowhere known (fun g => ?_) (by simp [Known.attachedSome, hx, hy])⟩,
    fun hknown htie => ⟨fun x y hx hy hdiffer hclosed => ⟨?_, ?_⟩,
      fun hnone => s.nowhere known (fun g => ?_) fun h => ?_⟩,
    fun hunknown => s.nowhere known (fun g => s.memberSign_unknown known _ g hunknown) (by simp [hunknown]),
    s.attachKnown_iff known n, (known.get n).sideX_eq_some_iff, (known.get n).sideY_eq_some_iff⟩
  · rintro g e he rfl
    exact ((s.member_sign known he).2.1 hfeeder).1
  · rintro g h e e' he he' rfl hsame
    obtain ⟨-, hsign, -⟩ := s.member_sign known he
    obtain ⟨-, hsign', -⟩ := s.member_sign known he'
    rw [hsame] at hsign'
    obtain ⟨-, z, hz, rfl⟩ := hsign hfeeder
    obtain ⟨-, z', hz', rfl⟩ := hsign' hfeeder
    cases hz.symm.trans hz'
    rfl
  · intro h
    obtain ⟨-, hfeeder, -⟩ := (s.mem_check_iff known n).1 h
    exact absurd htie (Bool.eq_false_iff.1 (Known.isTie_of_isFeeder hfeeder))
  · by_cases hmember : ∃ g e, e ∈ (s.membershipOf known).members.get g ∧ e.station = n
    · obtain ⟨g, e, he, rfl⟩ := hmember
      obtain ⟨hknown, -, hsign⟩ := s.member_sign known he
      obtain ⟨x, y, hx, hy, hdiffer, hclosed, -⟩ := hsign htie
      refine .inr ⟨(s.partition known).get x, (s.partition known).get y, hdiffer, ?_, ?_, fun i e' he' hsame => ?_⟩
      · rw [s.mem_members_iff known, s.memberSign_tie known _ _ hknown htie, tieSign_eq_some_iff]
        exact ⟨x, y, hx, hy, hdiffer, hclosed, .inl ⟨rfl, rfl⟩⟩
      · rw [s.mem_members_iff known, s.memberSign_tie known _ _ hknown htie, tieSign_eq_some_iff]
        exact ⟨x, y, hx, hy, hdiffer, hclosed, .inr ⟨rfl, rfl⟩⟩
      · obtain ⟨-, -, hsign'⟩ := s.member_sign known he'
        rw [hsame] at hsign'
        obtain ⟨x', y', hx', hy', -, -, hgroup⟩ := hsign' htie
        cases hx.symm.trans hx'
        cases hy.symm.trans hy'
        rcases hgroup with ⟨-, rfl⟩ | ⟨-, rfl⟩
        · exact .inl rfl
        · exact .inr rfl
    · exact .inl fun g e he hsame => hmember ⟨g, e, he, hsame⟩
  · rw [s.memberSign_feeder known _ _ hknown hfeeder, feederSign, hx, hy]
    rfl
  · rw [s.mem_members_iff known, s.memberSign_tie known _ _ hknown htie, tieSign_eq_some_iff]
    exact ⟨x, y, hx, hy, hdiffer, hclosed, .inl ⟨rfl, rfl⟩⟩
  · rw [s.mem_members_iff known, s.memberSign_tie known _ _ hknown htie, tieSign_eq_some_iff]
    exact ⟨x, y, hx, hy, hdiffer, hclosed, .inr ⟨rfl, rfl⟩⟩
  · rw [s.memberSign_tie known _ _ hknown htie, Option.eq_none_iff_forall_ne_some]
    intro plus hsome
    obtain ⟨x, y, hx, hy, hdiffer, hclosed, -⟩ := (tieSign_eq_some_iff _ _ _ _).1 hsome
    rcases hnone x y hx hy with h | h
    · exact hdiffer h
    · exact absurd (hclosed.symm.trans h) (by decide)
  · obtain ⟨-, hfeeder, -⟩ := h
    exact absurd htie (Bool.eq_false_iff.1 (Known.isTie_of_isFeeder hfeeder))

/-! ### Requests and changes (R107 to R112) -/

theorem Membership.inUse_iff (m : Membership) (g : Zone) : m.inUse g = true ↔ m.groupOf.get g = g := by
  simp [Membership.inUse]

section

variable (s : State) (known : Tab 24 Known)

theorem State.someUnknown_iff : s.someUnknown known = true ↔
    ∃ n, s.inPop n = true ∧ s.attachKnown known n = false := by
  simp [State.someUnknown]

theorem State.notSteady_iff (n : Station) : s.notSteady n = true ↔
    s.isOwn n = false ∧ ((s.entry n).state = .joining ∨ (s.entry n).state = .silent) := by
  simp [State.notSteady]

end

section

variable (r : Replica) (m : Membership)

theorem Membership.zonesOf_ne_iff (m old : Membership) (g : Zone) : m.zonesOf g ≠ old.zonesOf g ↔
    ∃ z, ¬(m.groupOf.get z = g ↔ old.groupOf.get z = g) := by
  have hget (m : Membership) (z : Zone) : (m.zonesOf g).get z = true ↔ m.groupOf.get z = g := by
    simp [Membership.zonesOf]
  rw [not_iff_comm, not_exists]
  refine ⟨fun h => Tab.ext_get fun z => ?_, fun h z hz => hz ?_⟩
  · rw [Bool.eq_iff_iff, hget, hget]
    exact not_not.1 (h z)
  · rw [← hget, ← hget, h]

theorem Replica.groupChanged_iff (g : Zone) : r.groupChanged m g = true ↔ m.groupOf.get g = g
    ∧ (r.hasReference = false ∨ r.membership.groupOf.get g ≠ g
      ∨ (∃ z, ¬(m.groupOf.get z = g ↔ r.membership.groupOf.get z = g))
      ∨ m.members.get g ≠ r.membership.members.get g) := by
  rw [← Membership.zonesOf_ne_iff, ← m.inUse_iff, Replica.groupChanged, Bool.and_eq_true]
  simp only [Bool.or_eq_true, bne_iff_ne, Bool.not_eq_true', Bool.eq_false_iff, ne_eq, Membership.inUse_iff, or_assoc]

theorem Replica.formerOf_iff (g f : Zone) : (r.formerOf m g).get f = true ↔
    r.hasReference = true ∧ ∃ z, m.groupOf.get z = g ∧ r.membership.groupOf.get z = f := by
  simp [Replica.formerOf]

end

/-- Settles O36: the partition's names, the requests, the changes, and the work of a closure. -/
theorem partitionNames : Obligations.PartitionNames := by
  unfold Obligations.PartitionNames
  refine ⟨fun s known => ?_, fun s known m => ?_, fun r m => ?_, fun s k => ?_⟩
  · obtain ⟨hsame, hidem, hlow⟩ := s.partition_names known
    exact ⟨fun z => ⟨hidem z, hlow z⟩,
      fun n x y hknown hfeeder hx hy => s.partition_connects known ⟨hknown, hfeeder, hx, hy⟩, hsame⟩
  · dsimp only
    refine ⟨fun g => ?_, fun g => ?_, s.someUnknown_iff known, ?_⟩
    · rw [State.requestsOf, Tab.get_ofFn, Bool.and_eq_true, m.inUse_iff, s.someUnknown_iff]
    · rw [State.requestsOf, Tab.get_ofFn, Bool.and_eq_true, m.inUse_iff, List.any_eq_true]
      simp only [s.notSteady_iff]
    · rw [State.requestsOf, List.any_eq_true]
      simp only [s.notSteady_iff]
  · dsimp only
    refine ⟨fun g => ?_, fun g => ?_, fun g f => ?_, ?_⟩
    · rw [Replica.changes, Tab.get_ofFn]
      exact r.groupChanged_iff m g
    · simp [Replica.changes, Membership.inUse, and_assoc]
    · rw [Replica.changes, Tab.get_ofFn]
      exact r.formerOf_iff m g f
    · simp [Replica.changes]
  · refine ⟨rfl, rfl, rfl, rfl, rfl, rfl, fun n z hown => ?_⟩
    rw [State.replicaNext, State.ownAttachmentOf, hown]
    simp [Known.attachment]

end Sys2Proof.Machine
end

section
/-! PROOFS. The Trip Unit's own current sums, breaker failure and its expiries (R148, R151 to R155, R161). -/

namespace Sys2Proof.Machine

section

variable (s : State)

theorem PerPhase.all_iff (p : PerPhase Bool) : p.all = true ↔ p.l1 = true ∧ p.l2 = true ∧ p.l3 = true := by
  simp [PerPhase.all, and_assoc]

theorem sumsBelow_iff (ibf w : Nat) (p : PerPhase Nat) : sumsBelow ibf w p = true ↔
    p.l1 < ibf * w ∧ p.l2 < ibf * w ∧ p.l3 < ibf * w := by
  simp [sumsBelow, PerPhase.all_iff, PerPhase.map]

/-- The own current is low (R151). -/
def State.Low (s : State) : Prop := s.trip.sumsKnown = true ∧ s.trip.ownSums.l1 < s.ibf * s.windowW
  ∧ s.trip.ownSums.l2 < s.ibf * s.windowW ∧ s.trip.ownSums.l3 < s.ibf * s.windowW

theorem State.currentLow_iff : s.currentLow = true ↔ s.Low := by
  rw [State.currentLow, Bool.and_eq_true, sumsBelow_iff]
  rfl

theorem State.bfCriterion_iff : s.bfCriterion = true ↔ ¬s.Low ∨ (s.set8 42 = 1 ∧ s.breakerOpen = false) := by
  rw [← s.currentLow_iff, State.bfCriterion, State.currentLow]
  cases s.trip.sumsKnown <;> simp [State.bfBreaker]

/-- Breaker failure is declared by its criterion (R154). -/
theorem State.declareBf_cases : (¬s.Low ∨ (s.set8 42 = 1 ∧ s.breakerOpen = false) → s.declareBf = { s.trip with
      bf := .failed, bfTimer := 0
      bfRequest := if s.replica.ownAttachment.nonempty then some s.replica.ownAttachment else none })
    ∧ (¬(¬s.Low ∨ (s.set8 42 = 1 ∧ s.breakerOpen = false)) →
      s.declareBf = { s.trip with bf := .idle, bfTimer := 0 }) := by
  rw [← s.bfCriterion_iff]
  exact ⟨fun h => if_pos h, fun h => if_neg h⟩

theorem State.declareBf_output : s.declareBf.output = s.trip.output := by
  unfold State.declareBf
  split_ifs <;> rfl

/-- Breaker failure at a closure (R153 to R155). -/
theorem State.tripBf_cases : (s.trip.bf = .idle → s.tripBf = s.trip)
    ∧ (s.trip.bf = .timing →
        (s.Low ∧ s.breakerOpen = true → s.tripBf = { s.trip with bf := .idle, bfTimer := 0 })
        ∧ (¬(s.Low ∧ s.breakerOpen = true) → 2 ≤ s.trip.bfTimer →
            s.tripBf = { s.trip with bfTimer := s.trip.bfTimer - 1 })
        ∧ (¬(s.Low ∧ s.breakerOpen = true) → s.trip.bfTimer ≤ 1 → s.tripBf = s.declareBf))
    ∧ (s.trip.bf = .failed →
        (s.Low ∧ s.breakerOpen = true → s.tripBf = { s.trip with bf := .idle, bfRequest := none })
        ∧ (¬(s.Low ∧ s.breakerOpen = true) → s.tripBf = s.trip)) := by
  rw [← s.currentLow_iff, ← Bool.and_eq_true]
  refine ⟨fun h => ?_, fun h => ⟨fun hcleared => ?_, fun hstays htimer => ?_, fun hstays htimer => ?_⟩,
    fun h => ⟨fun hcleared => ?_, fun hstays => ?_⟩⟩ <;> rw [State.tripBf, h]
  · exact if_pos hcleared
  · exact (if_neg hstays).trans (if_neg (by omega))
  · exact (if_neg hstays).trans (if_pos htimer)
  · exact if_pos hcleared
  · exact if_neg hstays

/-- The value that a closed slot gives: it is read well, and is REAL or SUBSTITUTED. -/
theorem ClosedSet.read_value_iff (c : ClosedSet) (n : Station) (v : PerPhase Int) : (c.read n).value = some v ↔
    (c.slots.get n).parityBad = false
      ∧ ((c.slots.get n).status = some .real ∨ (c.slots.get n).status = some .substituted)
      ∧ ∃ x, (c.slots.get n).contr = some x ∧ x.cur = v := by
  rw [ClosedSet.read]
  cases hparity : (c.slots.get n).parityBad
  · rw [show (c.slots.get n).deliver = c.slots.get n from if_neg (by simp [hparity]), ClosedSlot.value]
    cases hstatus : (c.slots.get n).status with
    | none => simp
    | some x => cases x <;> simp
  · simp [ClosedSlot.deliver, ClosedSlot.value, hparity]

/-- The magnitudes of the own slot summed over a list of sets, phase by phase. -/
theorem ownSumsOf_get (n : Station) (cs : List ClosedSet) (ph : Phase) : (ownSumsOf n cs).get ph
    = (cs.map fun c => ((((c.read n).value).getD (.const 0)).get ph).natAbs).sum := by
  rw [ownSumsOf, PerPhase.get_foldr_zip_add]
  simp only [ClosedSet.ownMagnitude, PerPhase.get_map]

theorem sumsKnownOf_iff (w : Nat) (n : Station) (l : List ClosedSet) : sumsKnownOf w n (l.take w) = true ↔
    w ≤ l.length ∧ ∀ c ∈ l.take w, (c.read n).value ≠ none := by
  simp only [sumsKnownOf, Bool.and_eq_true, decide_eq_true_eq, List.length_take, le_min_iff, le_refl, true_and,
    List.all_eq_true, Option.isSome_iff_ne_none]

theorem State.not_low_iff : ¬s.Low ↔ s.trip.sumsKnown = false ∨ s.ibf * s.windowW ≤ s.trip.ownSums.l1
    ∨ s.ibf * s.windowW ≤ s.trip.ownSums.l2 ∨ s.ibf * s.windowW ≤ s.trip.ownSums.l3 := by
  rw [State.Low, not_and_or, not_and_or, not_and_or, Bool.not_eq_true, not_lt, not_lt, not_lt]

/-- BF_TIMER_EXPIRY takes the declaration (R154). -/
theorem exec_bfTimerExpiry (hrun : s.inRun = true) (hbf : s.trip.bf = .timing) (htimer : s.trip.bfTimer = 0) :
    exec .bfTimerExpiry s = .next (s.withTrip s.declareBf).driven := by
  rw [exec, execBfTimerExpiry, answer_eq]
  exact congrArg (fun t : State => Host.Outcome.next t.driven) (if_pos (by simp [hrun, hbf, htimer]))

/-- MINIMUM_TIME_EXPIRY drops what is asserted in the mode (R148, R161). -/
theorem exec_minimumTimeExpiry (hworking : s.working = true) (hasserted : s.trip.asserted s.inTest = true)
    (htime : s.trip.minTime = 0) (hdemand : s.trip.demand = false) : exec .minimumTimeExpiry s
      = .next (s.withTrip { s.trip.drive s.inTest false with state := .none }).driven := by
  rw [exec, execMinimumTimeExpiry, answer_eq]
  exact congrArg (fun t : State => Host.Outcome.next t.driven) (if_pos (by simp [hworking, hasserted, htime, hdemand]))

end

/-- Settles O42: the two rows, the sums and breaker failure by the state it stands in. -/
theorem tripExpiries : Obligations.TripExpiries := by
  unfold Obligations.TripExpiries
  refine ⟨fun s hrun hbf htimer => ?_, fun s htime hdemand => ⟨fun hrun hout => ?_, fun hreset hmode hout => ?_⟩,
    fun c n v => c.read_value_iff n v, fun s n hown => ?_, fun s => ?_⟩
  · obtain ⟨hdeclares, hnot⟩ := s.declareBf_cases
    rw [s.not_low_iff, or_assoc, or_assoc, or_assoc] at hdeclares hnot
    refine ⟨_, exec_bfTimerExpiry s hrun hbf htimer, hdeclares, hnot, ?_⟩
    rw [← s.declareBf_output]
    rfl
  · have htest : s.inTest = false := by
      rw [State.inTest, (s.inRun_iff.1 hrun).1]
      rfl
    have hexec := exec_minimumTimeExpiry s (s.working_of_inRun hrun) (by rw [htest]; exact hout) htime hdemand
    rw [htest] at hexec
    exact ⟨_, hexec, rfl, Bool.and_false _, rfl⟩
  · have htest : s.inTest = true := by
      rw [State.inTest, hmode]
      rfl
    have hexec := exec_minimumTimeExpiry s (s.working_iff.2 ⟨.inr hmode, s.resetHeld_eq_false.1 hreset⟩)
      (by rw [htest]; exact hout) htime hdemand
    rw [htest] at hexec
    exact ⟨_, hexec, rfl, rfl⟩
  · have hsums : s.tripSums = { s.trip with
        ownSums := ownSumsOf n s.span, sumsKnown := sumsKnownOf s.windowW n s.span } := by
      rw [State.tripSums, hown]
    rw [hsums]
    refine ⟨rfl, fun ph => ownSumsOf_get n s.span ph, sumsKnownOf_iff _ n _, ?_⟩
    rw [State.breakerOpen, hown, beq_iff_eq]
  · obtain ⟨hidle, htiming, hfailed⟩ := s.tripBf_cases
    refine ⟨hidle, fun h => ?_, hfailed⟩
    obtain ⟨hcleared, hcounts, hlast⟩ := htiming h
    refine ⟨hcleared, hcounts, fun hstays htimer => ?_⟩
    rw [hlast hstays htimer]
    exact s.declareBf_cases

end Sys2Proof.Machine
end

section
/-! PROOFS. Self-supervision: the configuration recheck, a closure that halts the station and the datapath check
(R164, R165, R167), and the faults of storage (R91, R125, R166, R169, R170). -/

namespace Sys2Proof.Machine

/-! ### HALTED entered from RUN or TEST (R172, R180) -/

section

variable {s : State}

/-- The state in which the recheck has put its count back (R167). -/
def State.rechecked (s : State) : State := { s with sup := { s.sup with recheck := 0 } }

/-- HALTED entered from RUN or TEST: what the record takes, and what stays. -/
theorem State.halt_working (hworking : s.working = true) (code : HaltCode) (second : Option FaultReport) :
    let t := s.halt code second
    t.ctl.mode = .halted
      ∧ t.sup = { s.sup with
          halt := some ⟨code, if s.clock.taken then some s.clock.index else none, s.ctl.mode, second⟩ }
      ∧ t.trip = s.trip.release ∧ t.diff = s.diff ∧ t.asm = s.asm ∧ t.roster = s.roster ∧ t.replica = s.replica
      ∧ t.pins = s.pins ∧ t.ctl.store = s.ctl.store ∧ t.ctl.block = s.ctl.block := by
  have hmode := (s.working_iff.1 hworking).1
  have hnot : s.ctl.mode ≠ .halted := by
    rintro h
    rw [h] at hmode
    exact absurd hmode (by decide)
  intro t
  have ht : t = s.halt code second := rfl
  rw [State.halt, if_neg hnot, State.leaveMode, if_pos hmode] at ht
  rw [ht]
  exact ⟨rfl, rfl, rfl, rfl, rfl, rfl, rfl, rfl, rfl, rfl⟩

/-- The outputs of HALTED: its code, TRIP and PROT READY low, ALARM high (R143, R159, R174, R175). -/
theorem State.outputs_of_halted {r : HaltRecord} (hfree : s.resetHeld = false) (hmode : s.ctl.mode = .halted)
    (hrecord : s.sup.halt = some r) : s.statusOut = r.code.pins ∧ s.outputs.tripLine = false
      ∧ s.outputs.protReady = false ∧ s.alarmOut = true := by
  obtain ⟨htrip, hready⟩ := s.outputs_of_not_run (by rw [hmode]; decide)
  exact ⟨(s.statusOut_of_free hfree).2.2.2.2 r hmode hrecord, htrip, hready,
    s.alarmOut_iff.2 ⟨(s.resetHeld_eq_false.1 hfree).1, by simp [hmode]⟩⟩

end

/-! ### The configuration recheck (R167) -/

section

variable (s : State)

theorem State.recheckBlock_good (h : blockCrcGood s.blockBytes = true) : s.recheckBlock = s.rechecked := if_pos h

theorem State.recheckBlock_bad (h : blockCrcGood s.blockBytes = false) :
    s.recheckBlock = s.rechecked.halt .configCorrupt none := if_neg (by simp [State.blockBytes] at h ⊢; exact h)

theorem State.recheckClosure_counts (hworking : s.working = true) (h : s.sup.recheck + 1 < 2400) :
    s.recheckClosure = { s with sup := { s.sup with recheck := s.sup.recheck + 1 } } :=
  (if_neg (by simp [hworking])).trans (if_neg (Nat.not_le.2 h))

theorem State.recheckClosure_rechecks (hworking : s.working = true) (h : 2400 ≤ s.sup.recheck + 1) :
    s.recheckClosure = s.recheckBlock := (if_neg (by simp [hworking])).trans (if_pos h)

theorem blockCrcGood_iff (block : List Byte) : blockCrcGood block = true ↔
    (crc16 (block.take 56)).toNat = byteAt block 56 + 256 * byteAt block 57 := beq_iff_eq

/-- With a good block the count of `n` closures, at most 2,400, is `n` modulo 2,400. -/
theorem State.recheckClosure_iterate (hworking : s.working = true) (hgood : blockCrcGood s.blockBytes = true)
    (hzero : s.sup.recheck = 0) (n : Nat) :
    (State.recheckClosure^[n] s).working = true ∧ blockCrcGood (State.recheckClosure^[n] s).blockBytes = true
      ∧ (State.recheckClosure^[n] s).sup.recheck = n % 2400 := by
  induction n with
  | zero => exact ⟨hworking, hgood, hzero⟩
  | succ n ih =>
    rw [Function.iterate_succ_apply']
    generalize State.recheckClosure^[n] s = t at ih
    obtain ⟨hworks, hblock, hcount⟩ := ih
    by_cases h : t.sup.recheck + 1 < 2400
    · rw [t.recheckClosure_counts hworks h]
      refine ⟨hworks, hblock, ?_⟩
      change t.sup.recheck + 1 = _
      omega
    · rw [t.recheckClosure_rechecks hworks (Nat.not_lt.1 h), t.recheckBlock_good hblock]
      refine ⟨hworks, hblock, ?_⟩
      change 0 = _
      omega

/-- CONFIG_RECHECK at 2,400 rechecks the block. -/
theorem exec_configRecheck (hworking : s.working = true) (h : 2400 ≤ s.sup.recheck) :
    exec .configRecheck s = .next s.recheckBlock.driven := by
  rw [exec, execConfigRecheck, answer_eq]
  exact congrArg (fun t : State => Host.Outcome.next t.driven) (if_pos (by simp [hworking, Config.sampleRate, h]))

end

/-! ### A closure that halts the station (R94, R116, R143) -/

section

variable (s : State) (o : OpenSet)

theorem State.closeSet_finishes (h : (s.closureWork o).ctl.mode ≠ .halted) :
    s.closeSet o = (s.closureWork o).recheckClosure :=
  if_neg fun hc : (s.closureWork o).isHalted = true => h (beq_iff_eq.1 hc)

theorem State.closeSet_aborts (h : (s.closureWork o).ctl.mode = .halted) :
    s.closeSet o = s.abortClosure (s.closureWork o) := if_pos (beq_iff_eq.2 h)

theorem State.abortClosure_fields (t : State) (hworking : s.working = true) :
    let u := s.abortClosure t
    u.ctl.mode = .halted ∧ u.sup = t.sup ∧ u.asm = s.asm ∧ u.roster = s.roster ∧ u.replica = s.replica
      ∧ u.svc = s.svc ∧ u.pins = s.pins ∧ u.trip = s.trip.release
      ∧ u.diff = (if t.diff.fault && !s.diff.fault then s.diff.addFault else s.diff) := by
  intro u
  have hu : u = s.abortClosure t := rfl
  rw [State.abortClosure, State.leaveMode, if_pos (s.working_iff.1 hworking).1] at hu
  rw [hu]
  exact ⟨rfl, rfl, rfl, rfl, rfl, rfl, rfl, rfl, rfl⟩

end

/-! ### The datapath check (R164, R165) -/

section

variable (s : State)

/-- The state in which the mask has advanced (R164). -/
def State.nextMask (s : State) : State :=
  { s with sup := { s.sup with invertMask := (s.sup.invertMask + 1) % 16 } }

theorem Health.passes_iff (h : Health) (mask : Nat) (p : Phase) : h.passes mask p = true ↔
    h.sums mask p = checkerSums mask := beq_iff_eq

theorem Health.failing_eq_none (h : Health) (mask : Nat) (hgood : ∀ p, h.sums mask p = checkerSums mask) :
    h.failing mask = none := by
  simp [Health.failing, Health.passes, hgood]

/-- The failing phase is the lowest-numbered one that fails. -/
theorem Health.failing_eq_some (h : Health) (mask : Nat) (p : Phase) (hbad : h.sums mask p ≠ checkerSums mask)
    (h1 : p ≠ .l1 → h.sums mask .l1 = checkerSums mask) (h2 : p = .l3 → h.sums mask .l2 = checkerSums mask) :
    h.failing mask = some p := by
  cases p <;> simp_all [Health.failing, Health.passes]

theorem State.datapathCheck_runs {k : Nat} (hworking : s.working = true) (h : k % 2400 = 600) :
    s.datapathCheck k = match s.health.failing s.sup.invertMask with
      | none => s.nextMask
      | some p => s.nextMask.takeFault (s.health.datapathFault s.sup.invertMask p) := by
  rw [State.datapathCheck, if_pos (by simp [hworking, Config.sampleRate, h])]
  rfl

/-- The sums of the checker under a mask (R164). -/
theorem checkerSums_eq (mask : Nat) : (checkerSums mask).s = 25892
    ∧ (checkerSums mask).sigma = (if mask.testBit 0 then -945 else 945) + (if mask.testBit 1 then 4807 else -4807)
        + (if mask.testBit 2 then -12001 else 12001) + (if mask.testBit 3 then 8139 else -8139)
    ∧ (checkerSums mask).d = (checkerSums mask).sigma.natAbs := by
  simp only [checkerSums, syntheticTerms, syntheticValues, List.zipIdx_cons, List.zipIdx_nil, List.map_cons,
    List.map_nil, syntheticTerm, bitOf_eq_testBit, zero_add, Nat.reduceAdd, and_true]
  constructor <;>
    cases mask.testBit 0 <;> cases mask.testBit 1 <;> cases mask.testBit 2 <;> cases mask.testBit 3 <;> decide

end

/-- Settles O45: the count, the end of a closure, the row and the check of the datapath. -/
theorem configRecheck : Obligations.ConfigRecheck := by
  unfold Obligations.ConfigRecheck
  refine ⟨fun s hworking => ⟨s.recheckClosure_counts hworking, fun h => ?_, blockCrcGood_iff _, fun hgood hzero n _ =>
      (s.recheckClosure_iterate hworking hgood hzero n).2.2⟩,
    fun s o => ⟨s.closeSet_finishes o, fun hworking h => ?_⟩, fun s hworking h => ?_,
    fun s k hworking => ⟨fun h => ?_, fun h hgood => ?_, fun h p hbad h1 h2 => ?_⟩, checkerSums_eq⟩
  · rw [s.recheckClosure_rechecks hworking h]
    refine ⟨s.recheckBlock_good, fun hbad => ?_⟩
    rw [s.recheckBlock_bad hbad]
    obtain ⟨hmode, hsup, htrip, -, -, -, -, -, hstore, hblock⟩ :=
      State.halt_working (s := s.rechecked) hworking .configCorrupt none
    exact ⟨hmode, hsup, hstore, hblock, by rw [htrip]; rfl⟩
  · rw [s.closeSet_aborts o h]
    obtain ⟨hmode, hsup, hasm, hroster, hreplica, hsvc, hpins, htrip, hdiff⟩ :=
      s.abortClosure_fields (s.closureWork o) hworking
    generalize s.closureWork o = t at *
    refine ⟨hmode, hsup, hasm, hroster, hreplica, hsvc, hpins, htrip, ?_, ?_⟩
    · rw [hdiff]
      cases hbefore : s.diff.fault <;> cases hafter : t.diff.fault <;> simp [hbefore, Diff.addFault, Diff.reblock]
    · rw [hdiff]
      by_cases hnew : (t.diff.fault && !s.diff.fault) = true
      · rw [if_pos hnew]
        rfl
      · rw [if_neg hnew]
  · rw [exec_configRecheck s hworking h]
    refine ⟨fun hgood => ?_, fun hbad => ?_⟩
    · rw [s.recheckBlock_good hgood]
      exact ⟨_, rfl, rfl⟩
    · rw [s.recheckBlock_bad hbad]
      obtain ⟨hmode, hsup, htrip, -, -, -, -, hpins, hstore, hblock⟩ :=
        State.halt_working (s := s.rechecked) hworking .configCorrupt none
      generalize s.rechecked.halt .configCorrupt none = t at *
      have hfree : t.resetHeld = false := by
        rw [State.resetHeld, hpins]
        exact s.resetHeld_eq_false.2 (s.working_iff.1 hworking).2
      obtain ⟨hstatus, hline, hready, halarm⟩ := State.outputs_of_halted hfree hmode (congrArg Supervision.halt hsup)
      exact ⟨_, rfl, hmode, hstatus, hline, hready, halarm, congrArg Supervision.halt hsup,
        (congrArg Supervision.fault hsup :), hblock, hstore⟩
  · exact if_neg (by simp [Config.sampleRate, h])
  · rw [s.datapathCheck_runs hworking h, s.health.failing_eq_none _ fun p => not_not.1 (hgood p)]
    rfl
  · rw [s.datapathCheck_runs hworking h, s.health.failing_eq_some _ p hbad (fun hp => not_not.1 (h1 hp))
      fun hp => not_not.1 (h2 hp)]
    rfl

/-! ### A blocking fault (R169, R170) -/

/-- FAULT blocks every slot (R139). -/
theorem Diff.addFault_blocked (d : Diff) (t : Slot) : d.addFault.blocked t = true := by
  simp [Diff.blocked, Diff.unitWide, Diff.addFault, Diff.reblock]

theorem Diff.addFault_ring (d : Diff) (g : Zone) : (d.addFault.groups.get g).ring = (d.groups.get g).ring := by
  simp only [Diff.addFault, Diff.reblock, Tab.get_ofFn]
  split_ifs <;> rfl

section

variable {s : State} {f : FaultReport}

/-- A fault that writes a record: none stands, or another one that is acknowledged. -/
def State.TakesNew (s : State) (f : FaultReport) : Prop :=
  s.sup.fault = none ∨ ∃ r, s.sup.fault = some r ∧ r.acknowledged = true ∧ r.report ≠ f

/-- The state in which the record of a new fault is written. -/
def State.withRecord (s : State) (f : FaultReport) : State :=
  { s with sup := { s.sup with fault := some ⟨f, s.clock.index, s.ctl.mode, 0, false⟩ } }

theorem State.takeFault_new (hworking : s.working = true) (h : s.TakesNew f) : s.takeFault f = s.writeFault f := by
  rw [State.takeFault, if_neg (by simp [hworking])]
  obtain hnone | ⟨r, hr, hack, hne⟩ := h
  · rw [hnone]
  · simp only [hr, if_neg hne, if_pos hack]

/-- A new fault whose record reads back well sets FAULT. -/
theorem State.takeFault_records (hworking : s.working = true) (h : s.TakesNew f)
    (hcell : s.health.faultCellBad = false) : s.takeFault f = { s.withRecord f with diff := s.diff.addFault } :=
  (s.takeFault_new hworking h).trans (if_neg (by simp [hcell]))

/-- A new fault whose record reads back with a parity error halts the station. -/
theorem State.takeFault_unreadable (hworking : s.working = true) (h : s.TakesNew f)
    (hcell : s.health.faultCellBad = true) :
    s.takeFault f = (s.withRecord f).halt .doubleFault (some ⟨.storage, .supervision, .faultRecord⟩) :=
  (s.takeFault_new hworking h).trans (if_pos hcell)

theorem State.takeFault_repeats (hworking : s.working = true) {r : FaultRecord} (h : s.sup.fault = some r)
    (hr : r.report = f) :
    s.takeFault f = { s with sup := { s.sup with fault := some { r with repeats := satInc 65535 r.repeats } } } := by
  rw [State.takeFault, if_neg (by simp [hworking])]
  simp only [h, if_pos hr, Config.count16]

/-- A second fault before the acknowledgement of the first halts the station. -/
theorem State.takeFault_halts (hworking : s.working = true) {r : FaultRecord} (h : s.sup.fault = some r)
    (hr : r.report ≠ f) (hack : r.acknowledged = false) : s.takeFault f = s.halt .doubleFault (some f) := by
  rw [State.takeFault, if_neg (by simp [hworking])]
  simp only [h, if_neg hr, if_neg (by simp [hack] : ¬r.acknowledged = true)]

/-- A blocking fault keeps the sets, the roster and the replica. -/
theorem State.takeFault_stores (s : State) (f : FaultReport) : (s.takeFault f).asm = s.asm
    ∧ (s.takeFault f).roster = s.roster ∧ (s.takeFault f).replica = s.replica := by
  have halts (u : State) (code : HaltCode) (second : Option FaultReport) : (u.halt code second).asm = u.asm
      ∧ (u.halt code second).roster = u.roster ∧ (u.halt code second).replica = u.replica := by
    obtain ⟨-, hsame⟩ | ⟨-, -, -, -, hasm, -, hroster, hreplica⟩ := u.halt_cases code second
    · rw [hsame]
      exact ⟨rfl, rfl, rfl⟩
    · exact ⟨hasm, hroster, hreplica⟩
  obtain ⟨-, hsame⟩ | ⟨r, -, -, hcounts⟩ | ⟨-, hwrites⟩ | ⟨r, -, -, -, hhalts⟩ := s.takeFault_cases f
  · rw [hsame]
    exact ⟨rfl, rfl, rfl⟩
  · rw [hcounts]
    exact ⟨rfl, rfl, rfl⟩
  · rw [hwrites, State.writeFault]
    split_ifs
    · exact halts _ _ _
    · exact ⟨rfl, rfl, rfl⟩
  · rw [hhalts]
    exact halts _ _ _

end

/-! ### Reads with a parity error (R91, R125, R166) -/

theorem ClosedSet.read_bad (c : ClosedSet) (n : Station) (h : (c.slots.get n).parityBad = true) :
    (c.read n).status = some .missing ∧ (c.read n).contr = none ∧ c.readReport n = [slotFault c.index n true] := by
  rw [ClosedSet.read, show (c.slots.get n).deliver = _ from if_pos h]
  exact ⟨rfl, rfl, if_pos h⟩

theorem ClosedSet.read_good (c : ClosedSet) (n : Station) (h : (c.slots.get n).parityBad = false) :
    c.read n = c.slots.get n ∧ c.readReport n = [] :=
  have hnot : ¬(c.slots.get n).parityBad = true := by rw [h]; decide
  ⟨if_neg hnot, if_neg hnot⟩

theorem ClosedSet.mem_readReport (c : ClosedSet) (n : Station) (f : FaultReport) : f ∈ c.readReport n ↔
    (c.slots.get n).parityBad = true ∧ f = slotFault c.index n true := by
  rw [ClosedSet.readReport]
  split_ifs with h <;> simp [h]

theorem ClosedSet.mem_listReports (c : ClosedSet) (ms : List Member) (f : FaultReport) : f ∈ c.listReports ms ↔
    ∃ m ∈ ms, (c.slots.get m.station).parityBad = true ∧ f = slotFault c.index m.station true := by
  simp only [ClosedSet.listReports, List.mem_flatMap, ClosedSet.mem_readReport]

/-- The list of what the elements with a property give. -/
theorem flatMap_ite_singleton {α β : Type} (l : List α) (p : α → Bool) (g : α → β) :
    l.flatMap (fun a => if p a then [g a] else []) = (l.filter p).map g := by
  induction l with
  | nil => rfl
  | cons a l ih => cases h : p a <;> simp [h, ih]

section

variable (s : State)

theorem State.mem_slotReports (k : Nat) (n : Station) (f : FaultReport) : f ∈ s.slotReports k n ↔
    ∃ c, s.histSet k = some c ∧ (c.slots.get n).parityBad = true ∧ f = slotFault c.index n true := by
  rw [State.slotReports]
  cases s.histSet k with
  | none => simp
  | some c => simp [ClosedSet.mem_readReport]

theorem State.mem_rebuildReports (ms : List Member) (f : FaultReport) : f ∈ s.rebuildReports ms ↔
    ∃ h ∈ s.asm.history.take s.windowW, ∃ m ∈ ms,
      (h.slots.get m.station).parityBad = true ∧ f = slotFault h.index m.station true := by
  simp only [State.rebuildReports, List.mem_flatMap, List.mem_reverse, ClosedSet.mem_listReports]

/-- The sources of substitution that are read with a parity error (R86, R91). -/
theorem State.mem_sourceReports (o : OpenSet) (f : FaultReport) : f ∈ s.sourceReports o ↔
    ∃ n c, s.inPop n = true ∧ s.eligible n (o.slots.get n).settled = true ∧ s.asm.gap.get n ≤ 1
      ∧ (s.asm.marks.get n).count true < 4 ∧ s.histSet (indexBefore o.index s.cycleN) = some c
      ∧ (c.slots.get n).parityBad = true ∧ f = slotFault c.index n true := by
  simp only [State.sourceReports, List.mem_flatMap, mem_stations, true_and]
  refine exists_congr fun n => ?_
  have hsource : f ∈ (match s.substSource o.index n with
      | some c => c.readReport n
      | none => []) ↔ ∃ c, s.substSource o.index n = some c ∧ f ∈ c.readReport n := by
    cases s.substSource o.index n <;> simp
  by_cases h : (s.inPop n && s.eligible n (o.slots.get n).settled) = true
  · rw [if_pos h]
    refine hsource.trans ?_
    obtain ⟨hpop, heligible⟩ := Bool.and_eq_true_iff.1 h
    simp only [hpop, heligible, true_and, State.substSource_eq_some_iff, ClosedSet.mem_readReport, and_assoc]
  · rw [if_neg h]
    simp only [List.not_mem_nil, false_iff, not_exists]
    rintro c ⟨hpop, heligible, -⟩
    exact h (Bool.and_eq_true_iff.2 ⟨hpop, heligible⟩)

/-- The slots that the replica reads with a parity error (R91, R96). -/
theorem State.mem_replicaReports (k : Nat) (f : FaultReport) : f ∈ s.replicaReports k ↔ ∃ n h, s.inPop n = true
    ∧ (s.histSet (indexBefore k 1) = some h ∨ s.histSet k = some h)
    ∧ (h.slots.get n).parityBad = true ∧ f = slotFault h.index n true := by
  simp only [State.replicaReports, List.mem_flatMap, mem_stations, true_and]
  refine exists_congr fun n => ?_
  by_cases h : s.inPop n = true
  · rw [if_pos h]
    simp only [List.mem_append, State.mem_slotReports, h, true_and, ← exists_or, ← or_and_right]
  · simp [h]

/-- The slots that the Trip Unit reads with a parity error (R91, R151, R157). -/
theorem State.mem_tripReports (k : Nat) (f : FaultReport) : f ∈ s.tripReports k ↔
    (∃ n, s.own = some n ∧ ∃ c ∈ s.asm.history.take s.windowW, (c.slots.get n).parityBad = true
      ∧ f = slotFault c.index n true)
    ∨ ∃ n c, s.inPop n = true ∧ s.isOwn n = false ∧ s.histSet k = some c
      ∧ (c.slots.get n).parityBad = true ∧ f = slotFault c.index n true := by
  rw [State.tripReports, List.mem_append]
  refine or_congr ?_ ?_
  · cases hown : s.own with
    | none => simp
    | some n => simp [State.span, ClosedSet.mem_readReport]
  · simp only [List.mem_flatMap, mem_stations, true_and]
    refine exists_congr fun n => ?_
    by_cases h : s.isPeer n = true
    · obtain ⟨hpop, hown⟩ := Bool.and_eq_true_iff.1 h
      rw [Bool.not_eq_true'] at hown
      rw [if_pos h]
      simp only [State.mem_slotReports, hpop, hown, true_and]
    · rw [if_neg h]
      simp only [List.not_mem_nil, false_iff, not_exists]
      rintro c ⟨hpop, hown, -⟩
      exact h (Bool.and_eq_true_iff.2 ⟨hpop, by rw [hown]; rfl⟩)

/-- The entry that leaves a full ring has a parity error. -/
theorem Slot.leavingBad_iff (t : Slot) (w : Nat) : t.leavingBad w = true ↔
    w ≤ t.ring.length ∧ ∃ e ∈ t.ring.head?, e.parityBad = true := by
  rw [Slot.leavingBad, Slot.leaving]
  by_cases h : w ≤ t.ring.length
  · rw [if_pos h]
    cases t.ring.head? <;> simp [h]
  · simp [h]

/-- The reads of a slot in use that report a parity error (R118, R122, R125). -/
theorem State.mem_windowReports (name : SlotName) (t : Slot) (ms : List Member) (changed : Bool) (c : ClosedSet)
    (f : FaultReport) : f ∈ s.windowReports name t ms changed c ↔
      (changed = false ∧ ∃ m ∈ ms, (c.slots.get m.station).parityBad = true ∧ f = slotFault c.index m.station true)
      ∨ (changed = false ∧ t.leavingBad s.windowW = true ∧ f = ringFault name c.index)
      ∨ ((changed = true ∨ t.leavingBad s.windowW = true) ∧ ∃ h ∈ s.asm.history.take s.windowW, ∃ m ∈ ms,
          (h.slots.get m.station).parityBad = true ∧ f = slotFault h.index m.station true) := by
  rw [State.windowReports]
  cases changed
  · by_cases hleaves : t.leavingBad s.windowW = true
    · simp [hleaves, ClosedSet.mem_listReports, State.mem_rebuildReports]
    · simp [hleaves, ClosedSet.mem_listReports]
  · simp [State.mem_rebuildReports]

end

/-! ### A SAMPLE frame that meets a slot with a parity error (R76, R91) -/

section

variable (s : State) (p : Path) {bytes : List Byte} {f : Frame} {o : OpenSet}

/-- ARRIVAL of a frame whose slot is read with a parity error: the roster has taken the frame, and the slot is
damaged before the clock takes it. -/
theorem exec_arrival_bad {valid : Bool} {clamp : PerPhase Bool} {cur : PerPhase Int} {bay : BayInfo}
    (hstep : s.clock.stepDue = none) (hrun : s.inRun = true) (hpath : s.pathGood p = true)
    (hgood : frameGood bytes false = true) (hscheme : s.schemeFrame bytes = true) (hparse : parseFrame bytes = some f)
    (hmask : s.inMask f.sender = true) (hown : s.isOwn f.sender = false) (hsig : f.sig = s.ownSig)
    (hbody : f.body = .sample valid clamp cur bay) (hplace : s.placement f.index = .inSet)
    (ho : s.findOpen f.index = some o) (hbad : (o.slots.get f.sender).parityBad = true) :
    ∃ e view pending, (s.onPath p PathCtl.credit).Hears f e pending
      ∧ exec (.arrival p bytes false) s = .next (State.clockTake (State.evaluateSet
          (((s.onPath p PathCtl.credit).withTaken f.sender e view pending).damageSlot f.index f.sender)
          f.index) f).driven := by
  obtain ⟨hup, -⟩ := (s.pathGood_iff p).1 hpath
  have hexec := exec_arrival s p bytes false hstep hrun hup
  rw [s.judgeFrame_accepted p bytes f hgood hscheme hparse hmask hown, State.acceptFrame, if_pos hpath] at hexec
  obtain ⟨e, view, pending, htake, hears⟩ := (s.onPath p PathCtl.credit).rosterTake_hears f p
  have hindex : o.index = f.index := by simpa using List.find?_some ho
  have hassembler : ((s.onPath p PathCtl.credit).withTaken f.sender e view pending).assemblerTake p f
      = ((s.onPath p PathCtl.credit).withTaken f.sender e view pending).damageSlot f.index f.sender := by
    have hplace' : ((s.onPath p PathCtl.credit).withTaken f.sender e view pending).placement f.index = .inSet := hplace
    have ho' : ((s.onPath p PathCtl.credit).withTaken f.sender e view pending).findOpen f.index = some o := ho
    have hsig' : ¬f.sig ≠ ((s.onPath p PathCtl.credit).withTaken f.sender e view pending).ownSig := fun h => h hsig
    simp only [State.assemblerTake, hbody, hplace', ho', if_neg hsig', State.meetSlot, if_pos hbad, hindex]
  have hevaluates : (s.onPath p PathCtl.credit).evaluatesAfter f = true := by
    have hplace' : (s.onPath p PathCtl.credit).placement f.index = .inSet := hplace
    have ho' : (s.onPath p PathCtl.credit).findOpen f.index = some o := ho
    have hsig' : f.sig = (s.onPath p PathCtl.credit).ownSig := hsig
    simp [State.evaluatesAfter, hbody, Body.isSample, hplace', ho', ← hsig', OpenSlot.takesFrame, hbad]
  rw [State.handOver, htake, hassembler, if_pos hevaluates] at hexec
  exact ⟨e, view, pending, hears, hexec⟩

end

/-- The frame's slot is damaged, its sender counts no copy, and the fault is a new one, a repeat or the second. -/
theorem arrival_bad_settles : ∀ (s : State) (p : Path) (bytes : List Byte) (f : Frame) (o : OpenSet) (valid : Bool)
    (clamp : PerPhase Bool) (cur : PerPhase Int) (bay : BayInfo),
    s.clock.stepDue = none → s.inRun = true → s.pathGood p = true →
    frameGood bytes false = true → s.schemeFrame bytes = true → parseFrame bytes = some f →
    s.inMask f.sender = true → s.isOwn f.sender = false → f.sig = s.ownSig →
    f.body = .sample valid clamp cur bay → s.placement f.index = .inSet → s.findOpen f.index = some o →
    (o.slots.get f.sender).parityBad = true →
    ∃ u : State, u.asm = (s.writeSlot f.index f.sender .damaged).asm
      ∧ (u.entry f.sender).dup = (s.entry f.sender).dup ∧ (∀ n, n ≠ f.sender → u.entry n = s.entry n)
      ∧ (s.sup.fault = none → s.health.faultCellBad = false →
          u.sup.fault = some ⟨slotFault f.index f.sender false, s.clock.index, s.ctl.mode, 0, false⟩
          ∧ u.diff.fault = true ∧ u.ctl = s.ctl ∧ u.clock = s.clock)
      ∧ (∀ r, s.sup.fault = some r → r.report = slotFault f.index f.sender false →
          u.sup.fault = some { r with repeats := satInc 65535 r.repeats } ∧ u.diff = s.diff ∧ u.ctl = s.ctl)
      ∧ (∀ r, s.sup.fault = some r → r.report ≠ slotFault f.index f.sender false → r.acknowledged = false →
          u.ctl.mode = .halted ∧ u.sup.fault = some r
          ∧ u.sup.halt.map HaltRecord.second = some (some (slotFault f.index f.sender false)))
      ∧ ((∀ h ∈ s.asm.openSets.head?, h.index ≠ f.index) →
          exec (.arrival p bytes false) s = .next (u.clockTake f).driven)
      ∧ ((∀ h ∈ s.asm.openSets.head?, h.index = f.index) →
          exec (.arrival p bytes false) s = .next ((u.closeComplete).clockTake f).driven) := by
  intro s p bytes f o valid clamp cur bay hstep hrun hpath hgood hscheme hparse hmask hown hsig hbody hplace ho hbad
  obtain ⟨e, view, pending, hears, hexec⟩ := exec_arrival_bad s p hstep hrun hpath hgood hscheme hparse hmask hown hsig
    hbody hplace ho hbad
  obtain ⟨w, hw⟩ : ∃ w, w = ((s.onPath p PathCtl.credit).withTaken f.sender e view pending).writeSlot f.index f.sender
    .damaged := ⟨_, rfl⟩
  have hworking : w.working = true := by
    rw [hw]
    exact s.working_of_inRun hrun
  have hsup : w.sup = s.sup := by rw [hw]; rfl
  have hdiff : w.diff = s.diff := by rw [hw]; rfl
  have hctl : w.ctl = s.ctl := by rw [hw]; rfl
  have hclock : w.clock = s.clock := by rw [hw]; rfl
  have hhealth : w.health = s.health := by rw [hw]; rfl
  have hasm : w.asm = (s.writeSlot f.index f.sender .damaged).asm := by rw [hw]; rfl
  have hentries : w.roster.entries = s.roster.entries.set f.sender e := by rw [hw]; rfl
  have hindices : w.asm.openSets.map OpenSet.index = s.asm.openSets.map OpenSet.index := by
    rw [hasm]
    exact s.writeSlot_indices ..
  rw [State.damageSlot, ← hw] at hexec
  obtain ⟨hkeptAsm, hkeptRoster, -⟩ := w.takeFault_stores (slotFault f.index f.sender false)
  obtain ⟨hother, hhead⟩ := (w.takeFault (slotFault f.index f.sender false)).evaluateSet_cases f.index
  rw [hkeptAsm, hindices, List.head?_map] at hother hhead
  refine ⟨w.takeFault (slotFault f.index f.sender false), hkeptAsm.trans hasm, ?_, fun n hn => ?_,
    fun hnone hcell => ?_, fun r hr hsame => ?_, fun r hr hne hack => ?_, fun hnot => ?_, fun holdest => ?_⟩
  · rw [State.entry, hkeptRoster, hentries, Tab.get_set, if_pos rfl]
    exact hears.dup
  · rw [State.entry, hkeptRoster, hentries, Tab.get_set, if_neg hn]
    rfl
  · rw [State.takeFault_records hworking (.inl (hsup ▸ hnone)) (hhealth ▸ hcell)]
    refine ⟨?_, rfl, hctl, hclock⟩
    rw [← hclock, ← hctl]
    rfl
  · rw [State.takeFault_repeats hworking (hsup ▸ hr) hsame]
    exact ⟨rfl, hdiff, hctl⟩
  · rw [State.takeFault_halts hworking (hsup ▸ hr) hne hack]
    obtain ⟨hmode, hhalt, -⟩ := State.halt_working hworking .doubleFault (some (slotFault f.index f.sender false))
    rw [hhalt]
    exact ⟨hmode, hsup ▸ hr, rfl⟩
  · rw [hexec, hother]
    intro i hi
    obtain ⟨h1, hh1, rfl⟩ := Option.mem_map.1 hi
    exact hnot h1 hh1
  · rw [hexec, hhead]
    cases hopen : s.asm.openSets with
    | nil => simp [State.findOpen, hopen] at ho
    | cons h rest =>
      rw [hopen] at holdest
      exact congrArg some (holdest h rfl)

/-! ### The window that a bad entry leaves (R125) -/

section

variable (s : State) (ch : Changes) (old : Tab 4 Latch) (c : ClosedSet) (g : Zone)

/-- An unchanged window that an entry with a parity error leaves, with no other bad read, reports the entry once. -/
theorem State.groupReports_ring (huse : s.replica.membership.groupOf.get g = g) (hsame : ch.changed.get g = false)
    (hleaves : (s.diff.groups.get g).leavingBad s.windowW = true)
    (honly : ∀ f ∈ s.groupReports ch c g, f = ringFault (.group g) c.index) :
    s.groupReports ch c g = [ringFault (.group g) c.index] := by
  have hslot (f : FaultReport) {ms : List Member} {h : ClosedSet} (hf : f ∈ h.listReports ms) :
      f ≠ ringFault (.group g) c.index := by
    obtain ⟨m, -, -, rfl⟩ := (h.mem_listReports ms f).1 hf
    simp [slotFault, ringFault]
  have hreports : s.groupReports ch c g = c.listReports (s.replica.membership.members.get g)
      ++ ringFault (.group g) c.index :: s.rebuildReports (s.replica.membership.members.get g) := by
    rw [State.groupReports, if_pos ((s.replica.membership.inUse_iff g).2 huse), State.windowReports, hsame,
      if_pos hleaves]
    rfl
  rw [hreports] at honly ⊢
  have hlist : c.listReports (s.replica.membership.members.get g) = [] :=
    List.eq_nil_iff_forall_not_mem.2 fun f hf => hslot f hf (honly f (List.mem_append_left _ hf))
  have hrebuild : s.rebuildReports (s.replica.membership.members.get g) = [] := by
    refine List.eq_nil_iff_forall_not_mem.2 fun f hf => ?_
    obtain ⟨h, -, hread⟩ := List.mem_flatMap.1 hf
    exact hslot f hread (honly f (List.mem_append_right _ (List.mem_cons_of_mem _ hf)))
  rw [hlist, hrebuild, List.nil_append]

theorem State.groupWindow_updates (hstays : ch.dissolved.get g = false) (hsame : ch.changed.get g = false)
    (huse : s.replica.membership.groupOf.get g = g) : s.groupWindow ch c g
      = s.update (s.diff.groups.get g) (s.replica.membership.members.get g) c := by
  rw [State.groupWindow, hstays, hsame]
  exact if_pos ((s.replica.membership.inUse_iff g).2 huse)

/-- The fault of such an entry is recorded, FAULT is set, and the window holds the terms of the history again. -/
theorem State.diffGroup_ring (hworking : s.working = true) (huse : s.replica.membership.groupOf.get g = g)
    (hsame : ch.changed.get g = false) (hstays : ch.dissolved.get g = false)
    (hleaves : (s.diff.groups.get g).leavingBad s.windowW = true)
    (honly : ∀ f ∈ s.groupReports ch c g, f = ringFault (.group g) c.index) (hnone : s.sup.fault = none)
    (hcell : s.health.faultCellBad = false) :
    (s.diffGroup ch old c g).sup.fault = some ⟨ringFault (.group g) c.index, s.clock.index, s.ctl.mode, 0, false⟩
      ∧ (s.diffGroup ch old c g).diff.fault = true
      ∧ ((s.diffGroup ch old c g).diff.groups.get g).ring = s.rebuiltRing (s.replica.membership.members.get g) := by
  have htaken : s.takeFaults (s.groupReports ch c g)
      = { s.withRecord (ringFault (.group g) c.index) with diff := s.diff.addFault } := by
    rw [s.groupReports_ring ch c g huse hsame hleaves honly]
    exact State.takeFault_records hworking (.inl hnone) hcell
  obtain ⟨u, hu⟩ : ∃ u, u = { s.withRecord (ringFault (.group g) c.index) with diff := s.diff.addFault } := ⟨_, rfl⟩
  have hreplica : u.replica = s.replica := by rw [hu]; rfl
  have hrebuilt : u.rebuiltRing = s.rebuiltRing := by rw [hu]; rfl
  have hbad : (u.diff.groups.get g).leavingBad u.windowW = true := by
    rw [Slot.leavingBad_iff, hu]
    dsimp only
    rw [Diff.addFault_ring]
    exact (Slot.leavingBad_iff ..).1 hleaves
  rw [State.diffGroup, htaken, ← hu]
  refine ⟨by rw [hu]; rfl, by rw [hu]; rfl, ?_⟩
  dsimp only
  rw [Tab.get_set, if_pos rfl, u.groupWindow_updates ch c g hstays hsame (hreplica ▸ huse), State.update, if_pos hbad,
    ← hreplica, ← hrebuilt]
  rfl

end

/-! ### The Trip Unit's own reads (R91, R151, R157) -/

section

variable (s : State) (h : Handed) (k : Nat)

/-- Of the records the Trip Unit's reads alone change something. -/
theorem State.tripUnit_sup : (s.tripUnit h k).sup = (s.takeFaults (s.tripReports k)).sup := by
  simp only [State.tripUnit, State.withTrip_sup]

/-- FAULT is what the Trip Unit changes of the Differential Unit. -/
theorem State.tripUnit_diff : (s.tripUnit h k).diff = (s.takeFaults (s.tripReports k)).diff := by
  simp only [State.tripUnit, State.withTrip_diff]

end

/-- Settles O46: the slots read with a parity error, the reports of every reader, and the rows of the fault record. -/
theorem blockingFaults : Obligations.BlockingFaults := by
  unfold Obligations.BlockingFaults
  refine ⟨fun s r n o hown ho hbad => ?_, arrival_bad_settles, fun c n => ⟨c.read_bad n, c.read_good n⟩,
    fun s o => ⟨?_, fun _ => rfl, ?_, fun hrange f => ?_⟩, fun s c => ⟨?_, fun hrange f => ?_⟩,
    fun s h k => ⟨s.tripUnit_sup h k, s.tripUnit_diff h k, s.mem_tripReports k⟩,
    fun s name t ms changed c => ⟨t.leavingBad_iff _, fun f => ?_⟩,
    fun s ch old c g => ⟨?_, ?_, s.diffGroup_ring ch old c g⟩, fun s f hworking => ⟨fun h hcell => ?_,
      fun h hcell => ?_, fun r hr hsame => State.takeFault_repeats hworking hr hsame, fun r hr hne hack => ?_⟩⟩
  · simp only [State.fillOwn, hown, ho, if_pos hbad]
    rfl
  · rfl
  · exact flatMap_ite_singleton ..
  · rw [s.mem_sourceReports, s.indexBefore_cycleN]
    rfl
  · simp only [State.zoneWork]
  · have hbefore : indexBefore c.index 1 = (c.index + 47999) % 48000 := rfl
    rw [s.mem_replicaReports, hbefore]
    rfl
  · rw [s.mem_windowReports, t.leavingBad_iff]
    rfl
  · simp only [State.diffGroup]
  · simp only [State.groupReports, Membership.inUse, beq_iff_eq]
  · rw [State.takeFault_records hworking h hcell]
    exact ⟨rfl, rfl, rfl, fun g => s.diff.addFault_blocked _⟩
  · rw [State.takeFault_unreadable hworking h hcell]
    obtain ⟨hmode, hsup, htrip, hdiff, -⟩ := State.halt_working (s := s.withRecord f) hworking .doubleFault
      (some ⟨.storage, .supervision, .faultRecord⟩)
    rw [hsup, htrip]
    exact ⟨hmode, rfl, rfl, rfl, hdiff⟩
  · rw [State.takeFault_halts hworking hr hne hack]
    obtain ⟨hmode, hsup, htrip, hdiff, -⟩ := State.halt_working hworking .doubleFault (some f)
    rw [hsup, htrip]
    exact ⟨hmode, hr, rfl, rfl, rfl, hdiff⟩

end Sys2Proof.Machine
end

section
/-! PROOFS. The end of a conversion (R2 to R8, R14, R39, R74, R81) and the sample instant (R17, R19, R25, R32, R34,
R44, R73). -/

namespace Sys2Proof.Machine

/-! ### The record's way to the assembler (R39, R74) -/

section

variable (s : State)

/-- The own record changes the open sets alone, and of them its own slot of its set, when that is EMPTY. -/
theorem State.fillOwn_sound (r : OwnRecord) (hsound : ∀ o ∈ s.asm.openSets, o.sound = true) :
    s.fillOwn r = { s with asm := { s.asm with openSets := (s.fillOwn r).asm.openSets } }
      ∧ (s.fillOwn r).asm.openSets.map OpenSet.index = s.asm.openSets.map OpenSet.index
      ∧ (∀ j, j ≠ r.index → (s.fillOwn r).findOpen j = s.findOpen j)
      ∧ ∀ m o, s.own = some m → s.findOpen r.index = some o →
        ((o.slots.get m).body = .empty → (s.fillOwn r).findOpen r.index
          = some { o with slots := o.slots.set m ⟨.filled (s.ownContribution r) false, false⟩ })
        ∧ ((o.slots.get m).body ≠ .empty → (s.fillOwn r).findOpen r.index = some o) := by
  cases hown : s.own with
  | none =>
    have hstays : s.fillOwn r = s := by simp [State.fillOwn, hown]
    rw [hstays]
    exact ⟨rfl, rfl, fun _ _ => rfl, by simp⟩
  | some m =>
    cases ho : s.findOpen r.index with
    | none =>
      have hstays : s.fillOwn r = s := by simp [State.fillOwn, hown, ho]
      rw [hstays]
      exact ⟨rfl, rfl, fun _ _ => rfl, by simp⟩
    | some o =>
      have hparity : (o.slots.get m).parityBad = false := by
        have hall := List.all_eq_true.1 (hsound o (List.mem_of_find?_eq_some ho)) m (mem_stations m)
        simpa using hall
      by_cases hempty : (o.slots.get m).body = .empty
      · have hfills : s.fillOwn r = s.writeSlot r.index m (.filled (s.ownContribution r) false) := by
          simp [State.fillOwn, hown, ho, hparity, hempty]
        rw [hfills]
        refine ⟨rfl, s.writeSlot_indices .., fun j hj => s.findOpen_writeSlot_other _ _ _ hj, ?_⟩
        rintro n u ⟨⟩ ⟨⟩
        exact ⟨fun _ => s.findOpen_writeSlot_same _ _ _ ho, fun h => absurd hempty h⟩
      · have hstays : s.fillOwn r = s := by simp [State.fillOwn, hown, ho, hparity, hempty]
        rw [hstays]
        refine ⟨rfl, rfl, fun _ _ => rfl, ?_⟩
        rintro n u ⟨⟩ ⟨⟩
        exact ⟨fun h => absurd h hempty, fun _ => ho⟩

/-- The record `r` of the conversion has gone its way `n` ticks on (R14, R39, R74): kept by the Bay Input Unit, sent in
RUN, and taken by the own slot of its set. -/
def State.RecordHanded (s : State) (r : OwnRecord) (n : Nat) (u : State) : Prop :=
  u.bay.conv = .idle ∧ u.bay.record = some r ∧ u.bay.dev = s.bay.dev
  ∧ (s.ctl.mode = .run → ∀ p, (s.link.paths.get p).state ≠ .down →
      ((s.link.paths.get p).sending = none →
        (u.link.paths.get p).sending = some (.sample, wireFrame s.header (s.samplePayload r)))
      ∧ (∀ x, (s.link.paths.get p).sending = some x → (u.link.paths.get p).sending = some x
        ∧ (u.link.paths.get p).sampleSlot = some (wireFrame s.header (s.samplePayload r))))
  ∧ (s.ctl.mode ≠ .run → u.link = s.link)
  ∧ u.asm.openSets.map OpenSet.index = s.asm.openSets.map OpenSet.index
  ∧ (∀ j, j ≠ s.bay.convIndex → u.findOpen j = s.findOpen j)
  ∧ (∀ m o, s.own = some m → s.findOpen s.bay.convIndex = some o →
      ((o.slots.get m).body = .empty → ∃ o', u.findOpen s.bay.convIndex = some o' ∧ o'.slots.get m
        = ⟨.filled ⟨r.cur, r.clamp, r.valid, s.clock.sync, ⟨s.ownDesc, r.states, s.trip.bfRequest, s.trip.state⟩,
            none, some (s.clock.tick + BitVec.ofNat 32 n)⟩ false, false⟩
        ∧ ∀ i, i ≠ m → o'.slots.get i = o.slots.get i)
      ∧ ((o.slots.get m).body ≠ .empty → u.findOpen s.bay.convIndex = some o))
  ∧ u.asm.history = s.asm.history ∧ u.clock.index = s.clock.index
  ∧ u.clock.tick = s.clock.tick + BitVec.ofNat 32 n ∧ u.clock.sync = s.clock.sync
  ∧ u.roster = s.roster ∧ u.replica = s.replica ∧ u.diff = s.diff ∧ u.trip = s.trip ∧ u.sup = s.sup
  ∧ u.ctl = s.ctl ∧ u.pins = s.pins ∧ u.health = s.health ∧ u.pending = s.pending

/-- The record of a conversion is handed off from a state that differs by time alone. -/
theorem State.handRecord_hands (hsound : ∀ o ∈ s.asm.openSets, o.sound = true) {n : Nat} {c : Clock} (v : Service)
    {b : Bay} {r : OwnRecord} (hindex : c.index = s.clock.index) (htick : c.tick = s.clock.tick + BitVec.ofNat 32 n)
    (hsync : c.sync = s.clock.sync) (hconv : b.conv = .idle) (hdev : b.dev = s.bay.dev)
    (hr : r.index = s.bay.convIndex) :
    ∃ u, State.handRecord { s with clock := c, svc := v, bay := b } r = u.evaluateSet s.bay.convIndex
      ∧ s.RecordHanded r n u ∧ u.bay = { b with record := some r } := by
  obtain ⟨w, hw⟩ : ∃ w : State, w = { s with clock := c, svc := v, bay := { b with record := some r } } := ⟨_, rfl⟩
  have hsend : w.sendRecord r = { w with link := (w.sendRecord r).link } := by
    by_cases hrun : w.ctl.mode = .run
    · exact (sampleFrameRoundTrip.2 w r hrun).1
    · rw [State.sendRecord, if_neg hrun]
  have hframe : wireFrame w.header (w.samplePayload r) = wireFrame s.header (s.samplePayload r) := by
    have hpayload : w.samplePayload r = s.samplePayload r := by
      rw [State.samplePayload, State.samplePayload, hw]
      dsimp only
      rw [hsync]
      rfl
    have hheader : w.header = s.header := by rw [hw]; rfl
    rw [hpayload, hheader]
  generalize hl : (w.sendRecord r).link = l at hsend
  have hpaths (hrun : s.ctl.mode = .run) (p : Path) (h : (s.link.paths.get p).state ≠ .down) :
      ((s.link.paths.get p).sending = none →
        (l.paths.get p).sending = some (.sample, wireFrame s.header (s.samplePayload r)))
      ∧ (∀ x, (s.link.paths.get p).sending = some x → (l.paths.get p).sending = some x
        ∧ (l.paths.get p).sampleSlot = some (wireFrame s.header (s.samplePayload r))) := by
    have hlink : w.link = s.link := by rw [hw]
    obtain ⟨-, -, -, hget⟩ := sampleFrameRoundTrip.2 w r (by rw [hw]; exact hrun)
    rw [hl, hframe, hlink] at hget
    obtain ⟨-, -, hsends⟩ := hget p
    obtain ⟨-, hidle, hbusy⟩ := hsends h
    exact ⟨fun h => (hidle h).2, hbusy⟩
  have hquiet (hrun : s.ctl.mode ≠ .run) : l = s.link := by
    rw [← hl, State.sendRecord, if_neg (by rw [hw]; exact hrun), hw]
  obtain ⟨hfill, hindices, hother, hslot⟩ := State.fillOwn_sound { w with link := l } r (by rw [hw]; exact hsound)
  have hown : State.own { w with link := l } = s.own := by rw [hw]; rfl
  have hopen (j : Nat) : State.findOpen { w with link := l } j = s.findOpen j := by rw [hw]; rfl
  have hcontr : State.ownContribution { w with link := l } r = ⟨r.cur, r.clamp, r.valid, s.clock.sync,
      ⟨s.ownDesc, r.states, s.trip.bfRequest, s.trip.state⟩, none, some (s.clock.tick + BitVec.ofNat 32 n)⟩ := by
    rw [← hsync, ← htick, hw]
    rfl
  have hgoes : State.handRecord { s with clock := c, svc := v, bay := b } r
      = (State.fillOwn { w with link := l } r).evaluateSet s.bay.convIndex := by
    rw [← hr, ← hsend, hw]
    rfl
  generalize State.fillOwn { w with link := l } r = u at hfill hindices hother hslot hgoes
  rw [hown, hopen, hr, hcontr] at hslot
  have hbay : u.bay = { b with record := some r } := by rw [hfill, hw]
  have hlink : u.link = l := by rw [hfill]
  have hclock : u.clock = c := by rw [hfill, hw]
  refine ⟨u, hgoes, ⟨by rw [hbay]; exact hconv, by rw [hbay], by rw [hbay]; exact hdev, ?_, ?_, ?_, fun j hj => ?_,
    fun m o hm ho => ⟨fun h => ⟨_, (hslot m o hm ho).1 h, ?_, fun i hi => ?_⟩, (hslot m o hm ho).2⟩, ?_⟩, hbay⟩
  · rw [hlink]
    exact hpaths
  · rw [hlink]
    exact hquiet
  · rw [hindices, hw]
  · rw [hother j (by rw [hr]; exact hj), hopen]
  · rw [Tab.get_set, if_pos rfl]
  · rw [Tab.get_set, if_neg hi]
  · rw [hclock, hfill, hw]
    exact ⟨rfl, hindex, htick, hsync, rfl, rfl, rfl, rfl, rfl, rfl, rfl, rfl, rfl⟩

end

/-! ### The rows that end a conversion (R2, R3, R7, R8) -/

theorem Bay.judge_kept (b : Bay) (good : Bool) : (b.judge good).conv = b.conv ∧ (b.judge good).dev = b.dev
    ∧ (b.judge good).convIndex = b.convIndex := by
  cases good
  · exact ⟨rfl, rfl, rfl⟩
  · rw [show b.judge true = b.good from rfl, Bay.good]
    split_ifs <;> exact ⟨rfl, rfl, rfl⟩

theorem Bay.good_failRun (b : Bay) : b.good.failRun = 0 := by
  rw [Bay.good]
  split_ifs <;> rfl

section

variable {s : State}

/-- Undisturbed ticks up to the timeout of a conversion end it without a measurement. -/
theorem exec_adcTimeout (hworking : s.working = true) (hconv : s.bay.conv = .waitDrdy)
    (hquiet : s.Undisturbed (4800 - s.bay.wait)) :
    exec .adcTimeout s = .next (s.elapse (4800 - s.bay.wait)).endTimeout.driven := by
  obtain ⟨hsettle, hpasses, hpass⟩ := hquiet.settles
  have hconverts : s.converts = true := by rw [State.converts, hworking]; rfl
  have hticks := State.ticksTo_adc hconverts hconv
  generalize hn : 4800 - s.bay.wait = n at *
  have hworks : (s.elapse n).working = true := by
    obtain ⟨-, hpins, -⟩ := s.elapse_fields n
    rw [State.working, State.resetHeld, (s.elapse_ctl n).1, hpins]
    exact hworking
  have hdue : (s.elapse n).ticksTo .adc = some 0 := by
    rw [s.elapse_working hworking] at hworks ⊢
    have hwaits : (s.bay.elapse n).conv = .waitDrdy ∧ (s.bay.elapse n).wait = min 4800 (s.bay.wait + n) := by
      rw [Bay.elapse, Bay.progress, hconv]
      exact ⟨rfl, rfl⟩
    rw [State.ticksTo_adc (by rw [State.converts, hworks]; rfl) hwaits.1, hwaits.2,
      show Config.adcLimit = 4800 from rfl]
    congr 1
    omega
  rw [exec, execAdcTimeout, answer_eq, State.timedRow, hsettle, hticks]
  simp only [hpasses, if_true, hpass, State.takeDue, if_pos hdue, State.takeTimed, if_pos hworks]

/-- Undisturbed ticks up to the end of a read end the conversion with the codes. -/
theorem exec_readComplete (hworking : s.working = true) (hconv : s.bay.conv = .reading)
    (hquiet : s.Undisturbed (256 - s.bay.readTicks)) (bits : BitVec 64) : exec (.readComplete bits) s
      = .next ((s.elapse (256 - s.bay.readTicks)).endRead (adcCodes bits).1 (adcCodes bits).2).driven := by
  obtain ⟨hsettle, hpasses, hpass⟩ := hquiet.settles
  have hconverts : s.converts = true := by rw [State.converts, hworking]; rfl
  rw [exec, execReadComplete, answer_eq, hsettle]
  dsimp only
  rw [show Config.readTicks = 256 from rfl, hpass, if_pos (by simp [hconverts, hconv, hpasses])]
  generalize 256 - s.bay.readTicks = n
  have hworks : (s.elapse n).working = true := by
    obtain ⟨-, hpins, -⟩ := s.elapse_fields n
    rw [State.working, State.resetHeld, (s.elapse_ctl n).1, hpins]
    exact hworking
  have hreads : (s.elapse n).bay.conv = .reading := by
    obtain ⟨w, r, hbay⟩ := Bay.elapse_eq n s.bay
    rw [s.elapse_working hworking, hbay]
    exact hconv
  rw [State.readDone, if_pos (by simp [State.converts, hworks, hreads])]
  dsimp only
  rw [if_pos hworks]

variable (s) in
/-- A timeout judges the instant failed and hands off the record of an invalid measurement (R7, R8). -/
theorem State.endTimeout_eq : s.endTimeout
    = State.handRecord { s with bay := Bay.judge { s.bay with conv := .idle } false }
      ⟨s.bay.convIndex, .const 0, .const false, false, s.bay.reported⟩ := rfl

variable (s) in
/-- A read with a bad reference code does the same (R7, R8). -/
theorem State.endRead_bad (codes : PerPhase Int) {ref : Int} (h : ¬(s.refLo ≤ ref ∧ ref ≤ s.refHi)) :
    s.endRead codes ref = State.handRecord { s with bay := Bay.judge { s.bay with conv := .idle } false }
      ⟨s.bay.convIndex, .const 0, .const false, false, s.bay.reported⟩ := by
  have hbad : s.refGood ref = false := by
    rw [State.refGood, ← Bool.not_eq_true, Bool.and_eq_true, decide_eq_true_eq, decide_eq_true_eq]
    exact h
  rw [State.endRead, hbad]
  rfl

variable (s) in
/-- A read with a good reference code hands off the record of its codes (R5 to R8). -/
theorem State.endRead_good (codes : PerPhase Int) {ref : Int} (h : s.refLo ≤ ref ∧ ref ≤ s.refHi) :
    s.endRead codes ref = State.handRecord { s with bay := Bay.judge { s.bay with conv := .idle } true }
      (s.validRecord codes) := by
  have hgood : s.refGood ref = true := by
    rw [State.refGood, Bool.and_eq_true, decide_eq_true_eq, decide_eq_true_eq]
    exact h
  obtain ⟨-, hdev, hindex⟩ := Bay.judge_kept { s.bay with conv := .idle } true
  have hrecord : State.validRecord { s with bay := Bay.judge { s.bay with conv := .idle } true } codes
      = s.validRecord codes := by
    rw [State.validRecord, State.validRecord, Bay.reported, hdev, hindex]
    rfl
  rw [State.endRead, hgood]
  exact congrArg _ hrecord

/-- After `n` ticks the conversion ends, its run is judged, and the record is handed off. -/
theorem State.judged_hands (hworking : s.working = true) (hsound : ∀ o ∈ s.asm.openSets, o.sound = true) (n : Nat)
    (good : Bool) {r : OwnRecord} (hr : r.index = s.bay.convIndex) :
    ∃ u, State.handRecord
        { s.elapse n with bay := Bay.judge { (s.elapse n).bay with conv := .idle } good } r
        = u.evaluateSet s.bay.convIndex
      ∧ s.RecordHanded r n u
      ∧ (good = true → u.bay.failRun = 0)
      ∧ (good = false → u.bay.failRun = min 3 (s.bay.failRun + 1) ∧ u.bay.goodRun = 0) := by
  obtain ⟨w, x, hbay⟩ := Bay.elapse_eq n s.bay
  rw [s.elapse_working hworking, hbay]
  dsimp only
  obtain ⟨b, hb⟩ : ∃ b : Bay, b
    = { s.bay with wait := w, readTicks := x, convLine := s.bay.convLine && n == 0, conv := .idle } := ⟨_, rfl⟩
  obtain ⟨hconv, hdev, -⟩ := b.judge_kept good
  obtain ⟨u, hgoes, hhands, hubay⟩ := s.handRecord_hands hsound (n := n)
    (c := ({ s.clock with tick := s.clock.tick + BitVec.ofNat 32 n } : Clock).elapseTimers n) (s.svc.elapse n)
    (b := b.judge good) rfl rfl rfl (hconv.trans (by rw [hb])) (hdev.trans (by rw [hb])) hr
  rw [hb] at hgoes hubay
  refine ⟨u, hgoes, hhands, ?_, ?_⟩ <;> rintro rfl <;> rw [hubay]
  · exact Bay.good_failRun _
  · exact ⟨satInc_eq_min_succ .., rfl⟩

/-- What the end of a conversion leads to: the complete sets close when its set is the oldest. -/
theorem completes_of_evaluateSet {k n : Nat} {r : OwnRecord} {c : Instr} {u : State} (hands : s.RecordHanded r n u)
    (hexec : exec c s = .next (u.evaluateSet k).driven) :
    ((∀ o ∈ s.asm.openSets.head?, o.index ≠ k) → exec c s = .next u.driven)
      ∧ (∀ o ∈ s.asm.openSets.head?, o.index = k → exec c s = .next u.closeComplete.driven) := by
  obtain ⟨-, -, -, -, -, hindices, -⟩ := hands
  refine ⟨fun h => ?_, fun o ho hk => ?_⟩
  · rw [hexec, (u.evaluateSet_cases k).1]
    rw [hindices, List.head?_map]
    intro i hi
    obtain ⟨o, ho, rfl⟩ := Option.mem_map.1 hi
    exact h o ho
  · rw [hexec, (u.evaluateSet_cases k).2]
    rw [hindices, List.head?_map, ho, Option.map_some, hk]

end

/-- Settles O16: the two rows, each by the runs that it judges and the record that it hands off. -/
theorem conversionEnds : Obligations.ConversionEnds := by
  unfold Obligations.ConversionEnds
  intro s hworking hsound
  have elapses (n : Nat) : (s.elapse n).bay.reported = s.bay.reported
      ∧ (s.elapse n).bay.convIndex = s.bay.convIndex
      ∧ (s.elapse n).refLo = s.refLo ∧ (s.elapse n).refHi = s.refHi
      ∧ (s.elapse n).validRecord = s.validRecord := by
    obtain ⟨w, x, hbay⟩ := Bay.elapse_eq n s.bay
    rw [s.elapse_working hworking, hbay]
    exact ⟨rfl, rfl, rfl, rfl, rfl⟩
  refine ⟨fun hconv hquiet => ?_, fun bits hconv hquiet => ⟨fun href => ?_, fun href => ?_⟩⟩
  · have hexec := exec_adcTimeout hworking hconv hquiet
    generalize 4800 - s.bay.wait = n at *
    obtain ⟨hreported, hindex, -⟩ := elapses n
    obtain ⟨u, hgoes, hhands, -, hruns⟩ := State.judged_hands hworking hsound n false
      (r := ⟨s.bay.convIndex, .const 0, .const false, false, s.bay.reported⟩) rfl
    rw [State.endTimeout_eq, hreported, hindex, hgoes] at hexec
    exact ⟨u, completes_of_evaluateSet hhands hexec, hhands, hruns rfl⟩
  · have hexec := exec_readComplete hworking hconv hquiet bits
    generalize 256 - s.bay.readTicks = n at *
    obtain ⟨-, -, hlow, hhigh, hrecord⟩ := elapses n
    obtain ⟨u, hgoes, hhands, hrun, -⟩ := State.judged_hands hworking hsound n true
      (r := s.validRecord (adcCodes bits).1) rfl
    rw [State.endRead_good _ _ (by rw [hlow, hhigh]; exact href), hrecord, hgoes] at hexec
    exact ⟨u, completes_of_evaluateSet hhands hexec, hhands, hrun rfl⟩
  · have hexec := exec_readComplete hworking hconv hquiet bits
    generalize 256 - s.bay.readTicks = n at *
    obtain ⟨hreported, hindex, hlow, hhigh, -⟩ := elapses n
    obtain ⟨u, hgoes, hhands, -, hruns⟩ := State.judged_hands hworking hsound n false
      (r := ⟨s.bay.convIndex, .const 0, .const false, false, s.bay.reported⟩) rfl
    rw [State.endRead_bad _ _ (by rw [hlow, hhigh]; exact href), hreported, hindex, hgoes] at hexec
    exact ⟨u, completes_of_evaluateSet hhands hexec, hhands, hruns rfl⟩

/-! ### Closures take no time -/

/-- The timers that the clock keeps while instants are generated. -/
def Clock.timers (c : Clock) : Nat × Option Tick × Nat × Option Mark × Nat :=
  (c.remaining, c.lastEdge, c.sinceEdge, c.lastMark, c.sinceMark)

theorem Clock.enter_timers (c : Clock) (n : SyncState) : (c.enter n).timers = c.timers := by cases n <;> rfl

theorem Clock.changeAuthority_timers (c : Clock) (a : Authority) (pps : Bool) :
    (c.changeAuthority a pps).timers = c.timers := by
  unfold Clock.changeAuthority
  dsimp only
  split_ifs <;> rfl

theorem Clock.misfitRule_timers (c : Clock) (fit misfit : Bool) : (c.misfitRule fit misfit).timers = c.timers := by
  unfold Clock.misfitRule
  dsimp only
  split_ifs
  · rfl
  · exact Clock.enter_timers ..
  · rfl
  · rfl
  · rfl

theorem Clock.peerChecks_timers (c : Clock) (old : Authority) (lowest : Bool) :
    (c.peerChecks old lowest).timers = c.timers := by
  unfold Clock.peerChecks
  split
  · split_ifs
    · exact Clock.enter_timers ..
    · rfl
  · split_ifs
    · exact Clock.enter_timers ..
    · rfl
    · rfl
  · split_ifs
    · exact Clock.enter_timers ..
    · rfl
  · split_ifs
    · exact Clock.enter_timers ..
    · rfl
  · rfl
  · rfl

/-- `t` stands at the tick of `s`: the transfer timer and the clock's timers are as they were, no conversion has
started, and no set has opened. -/
structure State.SameTime (s t : State) : Prop where
  svc : t.svc = s.svc
  conv : s.bay.conv = .idle → t.bay.conv = .idle
  timers : t.clock.timers = s.clock.timers
  opens : t.asm.openSets.length ≤ s.asm.openSets.length

theorem State.SameTime.refl (s : State) : s.SameTime s := ⟨rfl, id, rfl, le_rfl⟩

theorem State.SameTime.trans {s t u : State} (h1 : s.SameTime t) (h2 : t.SameTime u) : s.SameTime u :=
  ⟨h2.svc.trans h1.svc, h2.conv ∘ h1.conv, h2.timers.trans h1.timers, h2.opens.trans h1.opens⟩

section

variable (s : State)

theorem State.sameTime_leaveMode : s.SameTime s.leaveMode := by
  unfold State.leaveMode
  split_ifs
  · exact ⟨rfl, fun _ => rfl, rfl, le_rfl⟩
  · exact ⟨rfl, fun _ => rfl, rfl, le_rfl⟩
  · exact .refl s

theorem State.sameTime_halt (code : HaltCode) (second : Option FaultReport) : s.SameTime (s.halt code second) := by
  by_cases hmode : s.ctl.mode = .halted
  · rw [State.halt, if_pos hmode]
    exact .refl s
  · rw [State.halt, if_neg hmode]
    exact s.sameTime_leaveMode.trans ⟨rfl, id, rfl, le_rfl⟩

theorem State.sameTime_takeFault (f : FaultReport) : s.SameTime (s.takeFault f) := by
  rcases s.takeFault_cases f with ⟨-, heq⟩ | ⟨r, -, -, heq⟩ | ⟨-, heq⟩ | ⟨r, -, -, -, heq⟩ <;> rw [heq]
  · exact .refl s
  · exact ⟨rfl, id, rfl, le_rfl⟩
  · unfold State.writeFault
    dsimp only
    split_ifs
    · exact .trans (t := { s with sup := { s.sup with fault := some (s.newRecord f) } }) ⟨rfl, id, rfl, le_rfl⟩
        (State.sameTime_halt _ _ _)
    · exact ⟨rfl, id, rfl, le_rfl⟩
  · exact s.sameTime_halt _ _

theorem State.sameTime_takeFaults (fs : List FaultReport) : s.SameTime (s.takeFaults fs) :=
  State.takeFaults_keeps (P := s.SameTime) (fun u f h => h.trans (u.sameTime_takeFault f)) fs (.refl s)

theorem State.sameTime_settle (o : OpenSet) : s.SameTime (s.settle o) :=
  (s.sameTime_takeFaults (s.openReports o ++ s.sourceReports o)).trans
    ⟨rfl, id, rfl, List.length_tail.trans_le (Nat.sub_le _ _)⟩

theorem State.sameTime_rosterClosure : s.SameTime s.rosterClosure := by
  have hconflict (u : State) : u.SameTime u.conflictClosure := by
    unfold State.conflictClosure
    dsimp only
    split_ifs
    · exact .refl u
    · exact ⟨rfl, id, rfl, le_rfl⟩
    · exact ⟨rfl, id, rfl, le_rfl⟩
    · exact ⟨rfl, id, rfl, le_rfl⟩
  have hview (u : State) : u.SameTime u.viewClear := by
    rw [State.viewClear_eq]
    exact ⟨rfl, id, rfl, le_rfl⟩
  have hentries : s.SameTime { s with roster := { s.roster with
      entries := .ofFn fun n => if s.isOwn n then s.entry n else (s.entry n).closure s.ownSig } } :=
  ⟨rfl, id, rfl, le_rfl⟩
  unfold State.rosterClosure
  dsimp only
  split_ifs
  · exact hentries.trans ((hconflict _).trans (hview _))
  · exact hentries

theorem State.clockNamed_timers : s.clockNamed.timers = s.clock.timers := by
  have hstart : s.clockStart.timers = s.clock.timers := by
    unfold State.clockStart
    split_ifs
    · exact Clock.enter_timers ..
    · rfl
  unfold State.clockNamed
  dsimp only
  split_ifs
  · exact hstart
  · exact (Clock.changeAuthority_timers ..).trans hstart

theorem State.sameTime_clockClosure (fit misfit : Bool) : s.SameTime (s.clockClosure fit misfit) := by
  by_cases hrun : s.ctl.mode = .run
  · rw [s.clockClosure_run hrun]
    refine ⟨rfl, id, ?_, le_rfl⟩
    have hmisfit := (Clock.misfitRule_timers _ fit misfit).trans s.clockNamed_timers
    dsimp only
    split_ifs
    · exact hmisfit
    · exact (Clock.peerChecks_timers ..).trans hmisfit
  · rw [s.clockClosure_other hrun]
    exact .refl s

theorem State.sameTime_zoneWork (c : ClosedSet) : s.SameTime (s.zoneWork c) := by
  have hgroup (ch : Changes) (old : Tab 4 Latch) (u : State) (g : Zone) :
      u.SameTime (State.diffGroup ch old c u g) :=
    (u.sameTime_takeFaults (u.groupReports ch c g)).trans ⟨rfl, id, rfl, le_rfl⟩
  have hgroups (ch : Changes) (old : Tab 4 Latch) (gs : List Zone) (u : State) :
      u.SameTime (gs.foldl (State.diffGroup ch old c) u) := by
    induction gs generalizing u with
    | nil => exact .refl u
    | cons g gs ih => exact (hgroup ch old u g).trans (ih _)
  have hcheck (ch : Changes) (u : State) : u.SameTime (u.diffCheck ch c) :=
    (u.sameTime_takeFaults _).trans ⟨rfl, id, rfl, le_rfl⟩
  have hdifferential (ch : Changes) (u : State) : u.SameTime (u.differential ch c) := by
    refine .trans (t := u.diffReasons) ⟨rfl, id, rfl, le_rfl⟩
      ((hgroups ch u.diff.latches zones _).trans ((hcheck ch _).trans ?_))
    exact ⟨rfl, id, rfl, le_rfl⟩
  refine (s.sameTime_takeFaults (s.replicaReports c.index)).trans (.trans ?_ (hdifferential _ _))
  exact ⟨rfl, id, rfl, le_rfl⟩

theorem State.sameTime_datapathCheck (k : Nat) : s.SameTime (s.datapathCheck k) := by
  unfold State.datapathCheck
  dsimp only
  have hmask : s.SameTime s.nextMask := ⟨rfl, id, rfl, le_rfl⟩
  split_ifs
  · split
    · exact hmask
    · exact hmask.trans (State.sameTime_takeFault _ _)
  · exact .refl s

theorem State.sameTime_tripUnit (h : Handed) (k : Nat) : s.SameTime (s.tripUnit h k) := by
  have htrip (u : State) (t : Trip) : u.SameTime (u.withTrip t) := ⟨rfl, id, rfl, le_rfl⟩
  exact (s.sameTime_takeFaults _).trans ((htrip _ _).trans ((htrip _ _).trans ((htrip _ _).trans ((htrip _ _).trans
    (htrip _ _)))))

/-- After settling a closure opens nothing and takes no time. -/
theorem State.sameTime_afterSettle (o : OpenSet) : (s.settle o).SameTime (s.closureWork o) := by
  have hprotection (u : State) : u.SameTime u.protectionWork := by
    unfold State.protectionWork
    split
    · exact .refl u
    · next c _ =>
      exact (u.sameTime_zoneWork c).trans ((State.sameTime_datapathCheck _ _).trans (State.sameTime_tripUnit _ _ _))
  exact (State.sameTime_rosterClosure _).trans
    ((State.sameTime_clockClosure _ s.asm.fit s.asm.misfit).trans (hprotection _))

theorem State.sameTime_recheckClosure : s.SameTime s.recheckClosure := by
  have hcount : s.SameTime s.rechecked := ⟨rfl, id, rfl, le_rfl⟩
  unfold State.recheckClosure State.recheckBlock
  dsimp only
  split_ifs
  · exact .refl s
  · exact hcount
  · exact hcount.trans (State.sameTime_halt _ _ _)
  · exact ⟨rfl, id, rfl, le_rfl⟩

theorem State.sameTime_closeHead : s.SameTime s.closeHead := by
  rcases s.closeHead_cases with ⟨-, heq⟩ | ⟨o, rest, -, ⟨-, heq⟩ | ⟨-, heq⟩⟩ <;> rw [heq]
  · exact .refl s
  · exact (s.sameTime_settle o).trans ((s.sameTime_afterSettle o).trans (State.sameTime_recheckClosure _))
  · exact s.sameTime_leaveMode.trans ⟨rfl, id, rfl, le_rfl⟩

theorem State.sameTime_evaluateSet (k : Nat) : s.SameTime (s.evaluateSet k) := by
  unfold State.evaluateSet
  split
  · exact .refl s
  · split_ifs
    · exact State.closeComplete_keeps (P := s.SameTime) (fun u h => h.trans u.sameTime_closeHead) (.refl s)
    · exact .refl s

theorem State.sameTime_handRecord (r : OwnRecord) : s.SameTime (s.handRecord r) := by
  have hsend (u : State) : u.SameTime (u.sendRecord r) := by
    by_cases hrun : u.ctl.mode = .run
    · rw [(sampleFrameRoundTrip.2 u r hrun).1]
      exact ⟨rfl, id, rfl, le_rfl⟩
    · rw [State.sendRecord, if_neg hrun]
      exact .refl u
  have hfill (u : State) : u.SameTime (u.fillOwn r) := by
    unfold State.fillOwn
    split
    · dsimp only
      split_ifs
      · exact .trans (t := u.writeSlot _ _ _) ⟨rfl, id, rfl, List.length_map _ |>.le⟩
          (State.sameTime_takeFault _ _)
      · exact ⟨rfl, id, rfl, List.length_map _ |>.le⟩
      · exact .refl u
    · exact .refl u
  exact .trans (t := { s with bay := { s.bay with record := some r } }) ⟨rfl, id, rfl, le_rfl⟩
    ((hsend _).trans ((hfill _).trans (State.sameTime_evaluateSet _ _)))

/-- A conversion that ends without a measurement takes no time, and leaves none. -/
theorem State.endTimeout_sameTime : s.endTimeout.svc = s.svc ∧ s.endTimeout.bay.conv = .idle
    ∧ s.endTimeout.clock.timers = s.clock.timers := by
  rw [State.endTimeout_eq]
  obtain ⟨hsvc, hconv, htimers, -⟩ := State.sameTime_handRecord
    { s with bay := Bay.judge { s.bay with conv := .idle } false }
    ⟨s.bay.convIndex, .const 0, .const false, false, s.bay.reported⟩
  exact ⟨hsvc, hconv rfl, htimers⟩

end

/-! ### The clock at an instant (R17, R19, R25, R32, R34) -/

section

variable (c : Clock) (run : Bool) (limit : Nat)

/-- The counts of an instant by the sync state. -/
theorem Clock.countInstant_cases :
    (c.sync = .unlocked → c.countInstant limit = { c with
        unlockedRun := satInc 2401 c.unlockedRun, syncLoss := c.syncLoss || decide (2400 ≤ c.unlockedRun) })
      ∧ (c.sync = .acquiring → c.countInstant limit = { c with
        unlockedRun := satInc 2401 c.unlockedRun, acquiringElapsed := satInc 2400 c.acquiringElapsed
        syncLoss := c.syncLoss || decide (2400 ≤ c.unlockedRun) })
      ∧ (c.sync = .holdover → c.countInstant limit
        = Clock.limitHoldover { c with holdoverElapsed := c.holdoverElapsed + 1 } limit)
      ∧ (c.sync ≠ .unlocked → c.sync ≠ .acquiring → c.sync ≠ .holdover → c.countInstant limit = c) := by
  have hpasses : 2400 < satInc 2401 c.unlockedRun ↔ 2400 ≤ c.unlockedRun := by
    unfold satInc
    split <;> omega
  have raises {d : Clock} (hsync : d.sync.acceptable = false) (hrun : d.unlockedRun = satInc 2401 c.unlockedRun) :
      d.raiseLoss = { d with syncLoss := d.syncLoss || decide (2400 ≤ c.unlockedRun) } := by
    have hraises : (!d.sync.acceptable && decide (Config.sampleRate < d.unlockedRun))
        = decide (2400 ≤ c.unlockedRun) := by
      rw [hsync, hrun]
      exact decide_eq_decide.2 hpasses
    rw [Clock.raiseLoss, hraises]
    by_cases h : 2400 ≤ c.unlockedRun
    · rw [if_pos (decide_eq_true h), decide_eq_true h, Bool.or_true]
    · rw [if_neg (by simp [h]), decide_eq_false h, Bool.or_false]
  refine ⟨fun h => ?_, fun h => ?_, fun h => ?_, fun h1 h2 h3 => ?_⟩
  · have hcounts : c.countInstant limit = Clock.raiseLoss { c with unlockedRun := satInc 2401 c.unlockedRun } := by
      unfold Clock.countInstant
      rw [h]
    exact hcounts.trans (raises (congrArg SyncState.acceptable h) rfl)
  · have hcounts : c.countInstant limit = Clock.raiseLoss { c with
        unlockedRun := satInc 2401 c.unlockedRun, acquiringElapsed := satInc 2400 c.acquiringElapsed } := by
      unfold Clock.countInstant
      rw [h]
    exact hcounts.trans (raises (congrArg SyncState.acceptable h) rfl)
  · unfold Clock.countInstant
    rw [h]
  · unfold Clock.countInstant
    split
    · exact absurd ‹_› h1
    · exact absurd ‹_› h2
    · exact absurd ‹_› h3
    · rfl
    · rfl
    · rfl

/-- HOLDOVER with another instant counted, and its end at the limit. -/
theorem Clock.countInstant_holdover (h : c.sync = .holdover) :
    (¬limit ≤ c.holdoverElapsed + 1 →
        c.countInstant limit = { c with holdoverElapsed := c.holdoverElapsed + 1 })
      ∧ (limit ≤ c.holdoverElapsed + 1 → c.countInstant limit
        = Clock.enter { c with holdoverElapsed := c.holdoverElapsed + 1 } .unlocked) := by
  obtain ⟨-, -, hholdover, -⟩ := c.countInstant_cases limit
  rw [hholdover h]
  exact ⟨fun hstays => if_neg fun hc => hstays hc.2, fun hends => if_pos ⟨h, hends⟩⟩

/-- The counts leave the instant as it was numbered. -/
theorem Clock.countInstant_kept : (c.countInstant limit).index = c.index ∧ (c.countInstant limit).tick = c.tick
    ∧ (c.countInstant limit).taken = c.taken ∧ (c.countInstant limit).instants = c.instants
    ∧ (c.countInstant limit).trim = c.trim ∧ (c.countInstant limit).frac = c.frac := by
  obtain ⟨hunlocked, hacquiring, -, hother⟩ := c.countInstant_cases limit
  by_cases h1 : c.sync = .unlocked
  · rw [hunlocked h1]
    exact ⟨rfl, rfl, rfl, rfl, rfl, rfl⟩
  by_cases h2 : c.sync = .acquiring
  · rw [hacquiring h2]
    exact ⟨rfl, rfl, rfl, rfl, rfl, rfl⟩
  by_cases h3 : c.sync = .holdover
  · obtain ⟨hstays, hends⟩ := c.countInstant_holdover limit h3
    by_cases hlimit : limit ≤ c.holdoverElapsed + 1
    · rw [hends hlimit]
      exact ⟨rfl, rfl, rfl, rfl, rfl, rfl⟩
    · rw [hstays hlimit]
      exact ⟨rfl, rfl, rfl, rfl, rfl, rfl⟩
  · rw [hother h1 h2 h3]
    exact ⟨rfl, rfl, rfl, rfl, rfl, rfl⟩

/-- The clock that has numbered an instant, before the counts and the next period (R17, R19). -/
def Clock.numbered (c : Clock) : Clock :=
  { c.spendSlew with
    index := nextIndex c.index, taken := true, instants := ⟨nextIndex c.index, c.tick⟩ :: c.instants.take 7
    stepBase := none }

/-- The clock with the counts of an instant, which RUN alone takes. -/
def Clock.counted (c : Clock) (run : Bool) (limit : Nat) : Clock :=
  if run then c.numbered.countInstant limit else c.numbered

theorem Clock.instant_eq : c.instant run limit = (c.counted run limit).startPeriod := rfl

/-- The numbering changes of the clock the slew alone, beside the instant itself. -/
theorem Clock.numbered_kept : c.numbered.tick = c.tick ∧ c.numbered.trim = c.trim ∧ c.numbered.frac = c.frac
    ∧ c.numbered.sync = c.sync ∧ c.numbered.unlockedRun = c.unlockedRun ∧ c.numbered.syncLoss = c.syncLoss
    ∧ c.numbered.acquiringElapsed = c.acquiringElapsed ∧ c.numbered.holdoverElapsed = c.holdoverElapsed := by
  unfold Clock.numbered Clock.spendSlew
  split_ifs <;> exact ⟨rfl, rfl, rfl, rfl, rfl, rfl, rfl, rfl⟩

/-- A pending slew whose step the period carried falls by one period (R19). -/
theorem Clock.numbered_slew : (c.slewLive = true → c.numbered.slew = c.slew - c.slew.sign)
    ∧ (c.slewLive = false → c.numbered.slew = c.slew) := by
  refine ⟨fun h => ?_, fun h => ?_⟩
  · have hspent : c.numbered.slew = if c.slew > 0 then c.slew - 1 else if c.slew < 0 then c.slew + 1 else 0 := by
      rw [Clock.numbered, Clock.spendSlew, if_pos h]
    rw [hspent]
    rcases lt_trichotomy c.slew 0 with hneg | hzero | hpos
    · rw [if_neg (by omega), if_pos hneg, Int.sign_eq_neg_one_of_neg hneg, sub_neg_eq_add]
    · simp [hzero]
    · rw [if_pos hpos, Int.sign_eq_one_of_pos hpos]
  · rw [Clock.numbered, Clock.spendSlew, if_neg (by simp [h])]

/-- An instant: its number and its tick, and the next period (R17). -/
theorem Clock.instant_period : let d := c.instant run limit
    d.index = (c.index + 1) % 48000 ∧ d.tick = c.tick ∧ d.taken = true
      ∧ d.instants = ⟨d.index, d.tick⟩ :: c.instants.take 7
      ∧ d.period = 2560000 + d.trim + slewStep d.slew ∧ d.trim = c.trim
      ∧ (0 ≤ c.frac + d.period → (256 * d.remaining + d.frac : Int) = c.frac + d.period ∧ d.frac < 256)
      ∧ (d.slewLive = true ↔ d.slew ≠ 0) := by
  intro d
  obtain ⟨htick, htrim, hfrac, -⟩ := c.numbered_kept
  have hcounted : (c.counted run limit).index = nextIndex c.index ∧ (c.counted run limit).tick = c.tick
      ∧ (c.counted run limit).taken = true
      ∧ (c.counted run limit).instants = ⟨nextIndex c.index, c.tick⟩ :: c.instants.take 7
      ∧ (c.counted run limit).trim = c.trim ∧ (c.counted run limit).frac = c.frac := by
    obtain ⟨hindex, htick', htaken, hinstants, htrim', hfrac'⟩ := c.numbered.countInstant_kept limit
    unfold Clock.counted
    split_ifs
    · exact ⟨hindex, htick'.trans htick, htaken, hinstants, htrim'.trans htrim, hfrac'.trans hfrac⟩
    · exact ⟨rfl, htick, rfl, rfl, htrim, hfrac⟩
  obtain ⟨hindex, htick, htaken, hinstants, htrim, hfrac⟩ := hcounted
  have hd : d = (c.counted run limit).startPeriod := rfl
  generalize c.counted run limit = e at *
  rw [hd]
  refine ⟨hindex, htick, htaken, ?_, rfl, htrim, fun hpos => ?_, ?_⟩
  · change e.instants = ⟨e.index, e.tick⟩ :: _
    rw [hinstants, hindex, htick]
  · rw [← hfrac] at hpos ⊢
    change 0 ≤ (e.frac : Int) + (Config.nominalPeriod + e.trim + slewStep e.slew) at hpos
    change 256 * (((e.frac + (Config.nominalPeriod + e.trim + slewStep e.slew)) / 256).toNat : Int)
        + (((e.frac + (Config.nominalPeriod + e.trim + slewStep e.slew)) % 256).toNat : Int)
        = e.frac + (Config.nominalPeriod + e.trim + slewStep e.slew)
      ∧ ((e.frac + (Config.nominalPeriod + e.trim + slewStep e.slew)) % 256).toNat < 256
    generalize (e.frac : Int) + (Config.nominalPeriod + e.trim + slewStep e.slew) = total at *
    omega
  · exact bne_iff_ne

/-- The sync state and the slew at an instant, and the counts of it (R19, R25, R32, R34). -/
theorem Clock.instant_counts : let d := c.instant run limit
    (¬(run = true ∧ c.sync = .holdover ∧ limit ≤ c.holdoverElapsed + 1) → d.sync = c.sync
        ∧ (c.slewLive = true → d.slew = c.slew - c.slew.sign) ∧ (c.slewLive = false → d.slew = c.slew))
      ∧ (run = true →
        (c.sync = .unlocked ∨ c.sync = .acquiring →
          d.unlockedRun = (if c.unlockedRun < 2401 then c.unlockedRun + 1 else 2401)
          ∧ (d.syncLoss = true ↔ c.syncLoss = true ∨ 2400 ≤ c.unlockedRun))
        ∧ (c.sync = .acquiring → d.acquiringElapsed
            = if c.acquiringElapsed < 2400 then c.acquiringElapsed + 1 else 2400)
        ∧ (c.sync = .holdover → d.holdoverElapsed = c.holdoverElapsed + 1
          ∧ (limit ≤ c.holdoverElapsed + 1 → d.sync = .unlocked ∧ d.slew = 0)))
      ∧ (run = false ∨ (c.sync ≠ .unlocked ∧ c.sync ≠ .acquiring) →
          d.unlockedRun = c.unlockedRun ∧ d.syncLoss = c.syncLoss)
      ∧ (run = false ∨ c.sync ≠ .holdover → d.holdoverElapsed = c.holdoverElapsed)
      ∧ (run = false ∨ c.sync ≠ .acquiring → d.acquiringElapsed = c.acquiringElapsed) := by
  intro d
  obtain ⟨-, -, -, hsync, hrun, hloss, hacquired, hheld⟩ := c.numbered_kept
  have hslew := c.numbered_slew
  have hd : d = (c.counted run limit).startPeriod := rfl
  rw [Clock.counted] at hd
  generalize c.numbered = e at *
  rw [← hsync, ← hrun, ← hloss, ← hacquired, ← hheld]
  cases run
  · rw [if_neg (by decide)] at hd
    rw [hd]
    exact ⟨fun _ => ⟨rfl, hslew⟩, by simp, fun _ => ⟨rfl, rfl⟩, fun _ => rfl, fun _ => rfl⟩
  rw [if_pos rfl] at hd
  obtain ⟨hunlocked, hacquiring, -, hother⟩ := e.countInstant_cases limit
  by_cases h1 : e.sync = .unlocked
  · rw [hunlocked h1] at hd
    rw [hd, h1]
    refine ⟨fun _ => ⟨rfl, hslew⟩, fun _ => ⟨fun _ => ⟨rfl, ?_⟩, by simp, by simp⟩, by simp, fun _ => rfl, fun _ => rfl⟩
    simp [Clock.startPeriod]
  by_cases h2 : e.sync = .acquiring
  · rw [hacquiring h2] at hd
    rw [hd, h2]
    refine ⟨fun _ => ⟨rfl, hslew⟩, fun _ => ⟨fun _ => ⟨rfl, ?_⟩, fun _ => rfl, by simp⟩, by simp, fun _ => rfl, by simp⟩
    simp [Clock.startPeriod]
  by_cases h3 : e.sync = .holdover
  · obtain ⟨hstays, hends⟩ := e.countInstant_holdover limit h3
    by_cases hlimit : limit ≤ e.holdoverElapsed + 1
    · rw [hends hlimit] at hd
      rw [hd, h3]
      exact ⟨fun h => (h ⟨rfl, rfl, hlimit⟩).elim, fun _ => ⟨by simp, by simp, fun _ => ⟨rfl, fun _ => ⟨rfl, rfl⟩⟩⟩,
        fun _ => ⟨rfl, rfl⟩, by simp, fun _ => rfl⟩
    · rw [hstays hlimit] at hd
      rw [hd, h3]
      exact ⟨fun _ => ⟨rfl, hslew⟩, fun _ => ⟨by simp, by simp, fun _ => ⟨rfl, fun h => absurd h hlimit⟩⟩,
        fun _ => ⟨rfl, rfl⟩, by simp, fun _ => rfl⟩
  · rw [hother h1 h2 h3] at hd
    rw [hd]
    exact ⟨fun _ => ⟨rfl, hslew⟩, fun _ => ⟨fun h => (h.elim h1 h2).elim, fun h => absurd h h2, fun h => absurd h h3⟩,
      fun _ => ⟨rfl, rfl⟩, fun _ => rfl, fun _ => rfl⟩

end

/-! ### SAMPLE_INSTANT (R17) -/

section

variable {s : State}

theorem State.elapse_works (n : Nat) : (s.elapse n).working = s.working := by
  obtain ⟨-, hpins, -⟩ := s.elapse_fields n
  rw [State.working, State.working, State.resetHeld, State.resetHeld, (s.elapse_ctl n).1, hpins]

/-- The timeout of a conversion comes nearer by the ticks that pass. -/
theorem State.elapse_ticksTo_adc (hworking : s.working = true) {n : Nat} (h : ∀ m, s.ticksTo .adc = some m → n ≤ m) :
    (s.elapse n).ticksTo .adc = (s.ticksTo .adc).map (· - n) := by
  have hconverts : s.converts = true := by rw [State.converts, hworking]; rfl
  have hconverts' : (s.elapse n).converts = true := by rw [State.converts, State.elapse_works, hworking]; rfl
  have hbay : (s.elapse n).bay = s.bay.elapse n := by rw [s.elapse_working hworking]
  by_cases hwaits : s.bay.conv = .waitDrdy
  · have helapses : (s.bay.elapse n).conv = .waitDrdy ∧ (s.bay.elapse n).wait = min 4800 (s.bay.wait + n) := by
      rw [Bay.elapse, Bay.progress, hwaits]
      exact ⟨rfl, rfl⟩
    rw [State.ticksTo_adc hconverts' (by rw [hbay]; exact helapses.1), State.ticksTo_adc hconverts hwaits, hbay,
      helapses.2]
    have hleast := h _ (State.ticksTo_adc hconverts hwaits)
    change some (4800 - _) = some (4800 - s.bay.wait - n)
    change n ≤ 4800 - s.bay.wait at hleast
    congr 1
    omega
  · have hstays : (s.elapse n).bay.conv ≠ .waitDrdy := by
      obtain ⟨w, r, helapse⟩ := Bay.elapse_eq n s.bay
      rw [hbay, helapse]
      exact hwaits
    rw [State.ticksTo_adc_none hwaits, State.ticksTo_adc_none hstays]
    rfl

variable (contacts : PerDevice Contacts) (blockIn : Bool)

/-- The instant that is taken once the period has passed, when the station is still at work. -/
def State.instantAt (s : State) (contacts : PerDevice Contacts) (blockIn : Bool) : State :=
  if s.working then (s.latchPins contacts blockIn).instantNow else s

theorem exec_sampleInstant (hworking : s.working = true) (hquiet : s.Undisturbed s.clock.remaining) :
    exec (.sampleInstant contacts blockIn) s
      = .next (((s.elapse s.clock.remaining).takeDue .adc).instantAt contacts blockIn).driven := by
  obtain ⟨hsettle, -, hpass⟩ := hquiet.settles
  rw [exec, execSampleInstant, answer_eq, hsettle]
  dsimp only
  rw [if_pos hworking, hpass]
  rfl

/-- ADC_TIMEOUT whose tick is that of the instant. -/
theorem exec_adcTimeout_atInstant (hworking : s.working = true) (hquiet : s.Undisturbed s.clock.remaining)
    (hdue : s.ticksTo .adc = some s.clock.remaining) :
    exec .adcTimeout s = .next (s.elapse s.clock.remaining).endTimeout.driven
      ∧ (s.elapse s.clock.remaining).takeDue .adc = (s.elapse s.clock.remaining).endTimeout := by
  obtain ⟨hsettle, hpasses, hpass⟩ := hquiet.settles
  have hticks := State.elapse_ticksTo_adc hworking (n := s.clock.remaining)
    fun m hm => (Option.some.inj (hdue.symm.trans hm)).le
  rw [hdue, Option.map_some, Nat.sub_self] at hticks
  have htakes : (s.elapse s.clock.remaining).takeDue .adc = (s.elapse s.clock.remaining).endTimeout := by
    have hworks : (s.elapse s.clock.remaining).working = true := State.elapse_works _ |>.trans hworking
    rw [State.takeDue, if_pos hticks, State.takeTimed, if_pos hworks]
  refine ⟨?_, htakes⟩
  rw [exec, execAdcTimeout, answer_eq, State.timedRow, hsettle, hdue]
  simp only [hpasses, if_true, hpass, htakes]

/-- With no conversion timed out the instant is taken as the period ends. -/
theorem exec_sampleInstant_alone (hworking : s.working = true) (hquiet : s.Undisturbed s.clock.remaining)
    (hnot : s.ticksTo .adc ≠ some s.clock.remaining) : exec (.sampleInstant contacts blockIn) s
      = .next ((s.elapse s.clock.remaining).latchPins contacts blockIn).instantNow.driven := by
  have hleast : ∀ m, s.ticksTo .adc = some m → s.clock.remaining ≤ m := fun m hm => hquiet.2.2.2 .adc m hm
  have hticks : (s.elapse s.clock.remaining).ticksTo .adc ≠ some 0 := by
    rw [State.elapse_ticksTo_adc hworking hleast]
    cases hadc : s.ticksTo .adc with
    | none => simp
    | some m =>
      have hle := hleast m hadc
      have hne : m ≠ s.clock.remaining := fun h => hnot (h ▸ hadc)
      simp only [Option.map_some, ne_eq, Option.some.injEq]
      omega
  have hworks : (s.elapse s.clock.remaining).working = true := (State.elapse_works _).trans hworking
  rw [exec_sampleInstant contacts blockIn hworking hquiet, State.takeDue, if_neg hticks, State.instantAt, if_pos hworks]

/-- The transfer timer stands at its limit once it has reached it. -/
theorem Service.elapse_zero (v : Service) (n : Nat) : (v.elapse n).elapse 0 = v.elapse n := by
  by_cases h : v.timerRuns = true
  · have helapse : v.elapse n = { v with timer := min (Config.twoSeconds + 1) (v.timer + n) } := if_pos h
    rw [helapse]
    refine (if_pos h).trans ?_
    exact congrArg (fun t => { v with timer := t }) (min_eq_right (Nat.min_le_left _ _))
  · rw [show v.elapse n = v from if_neg h]
    exact if_neg h

/-- Timers within their limit stay as they are when no tick passes. -/
theorem Clock.elapseTimers_zero (c : Clock) (hedge : c.lastEdge.isSome = true → c.sinceEdge ≤ Config.markLimit)
    (hmark : c.lastMark.isSome = true → c.sinceMark ≤ Config.markLimit) :
    ({ c with tick := c.tick + BitVec.ofNat 32 0 } : Clock).elapseTimers 0 = c := by
  have hsinceEdge : (if c.lastEdge.isSome then min Config.markLimit (c.sinceEdge + 0) else c.sinceEdge)
      = c.sinceEdge := by
    split_ifs with h
    · exact min_eq_right (hedge h)
    · rfl
  have hsinceMark : (if c.lastMark.isSome then min Config.markLimit (c.sinceMark + 0) else c.sinceMark)
      = c.sinceMark := by
    split_ifs with h
    · exact min_eq_right (hmark h)
    · rfl
  simp only [Clock.elapseTimers, hsinceEdge, hsinceMark, BitVec.add_zero, Nat.sub_zero]

/-- After the timeout at an instant no tick is left to it, and none that passes changes anything. -/
theorem State.endTimeout_elapse (hworking : s.working = true) :
    (s.elapse s.clock.remaining).endTimeout.clock.remaining = 0
      ∧ ((s.elapse s.clock.remaining).endTimeout.working = true →
        ∀ out, State.elapse 0 { (s.elapse s.clock.remaining).endTimeout with out := out }
          = { (s.elapse s.clock.remaining).endTimeout with out := out }) := by
  obtain ⟨hsvc, hconv, htimers⟩ := (s.elapse s.clock.remaining).endTimeout_sameTime
  have hclock : (s.elapse s.clock.remaining).clock
      = ({ s.clock with tick := s.clock.tick + BitVec.ofNat 32 s.clock.remaining } : Clock).elapseTimers
        s.clock.remaining := by
    rw [s.elapse_working hworking]
  have hservice : (s.elapse s.clock.remaining).svc = s.svc.elapse s.clock.remaining := by rw [s.elapse_working hworking]
  rw [hclock] at htimers
  rw [hservice] at hsvc
  generalize (s.elapse s.clock.remaining).endTimeout = e at *
  simp only [Clock.timers, Clock.elapseTimers, Nat.sub_self, Prod.mk.injEq] at htimers
  obtain ⟨hremaining, hedge, hsinceEdge, hmark, hsinceMark⟩ := htimers
  refine ⟨hremaining, fun hworks out => ?_⟩
  have hbay : e.bay.elapse 0 = e.bay := by
    rw [Bay.elapse, Bay.progress, hconv]
    simp
  have hsame : e.svc.elapse 0 = e.svc := by
    rw [hsvc]
    exact s.svc.elapse_zero _
  have htimes : ({ e.clock with tick := e.clock.tick + BitVec.ofNat 32 0 } : Clock).elapseTimers 0 = e.clock := by
    refine e.clock.elapseTimers_zero (fun h => ?_) fun h => ?_
    · rw [hedge] at h
      rw [hsinceEdge, if_pos h]
      exact min_le_left _ _
    · rw [hmark] at h
      rw [hsinceMark, if_pos h]
      exact min_le_left _ _
  rw [State.elapse_working { e with out := out } hworks 0]
  dsimp only
  rw [hbay, hsame, htimes]

end

section

variable {s : State} (contacts : PerDevice Contacts) (blockIn : Bool)

/-- Outputs driven once are driven again to the same. -/
theorem State.instantNow_driven : State.driven (State.instantNow (s.driven.latchPins contacts blockIn))
    = State.driven (State.instantNow (s.latchPins contacts blockIn)) := by
  have htx (p : Path) : (State.instantNow (s.driven.latchPins contacts blockIn)).txErrorOut p
      = (State.instantNow (s.latchPins contacts blockIn)).txErrorOut p := by
    have hlink (u : State) : (u.instantNow.link.paths.get p).sending = (u.link.paths.get p).sending := rfl
    have hout : (s.driven.out.txError.get p : Bool) = (s.out.txError.get p && (s.link.paths.get p).sending.isNone) :=
      s.outputs_txError p
    rw [State.txErrorOut, State.txErrorOut, hlink, hlink]
    change (s.driven.out.txError.get p && (s.link.paths.get p).sending.isNone)
      = (s.out.txError.get p && (s.link.paths.get p).sending.isNone)
    rw [hout, Bool.and_assoc, Bool.and_self]
  have houtputs : (State.instantNow (s.driven.latchPins contacts blockIn)).outputs
      = (State.instantNow (s.latchPins contacts blockIn)).outputs := by
    rw [State.outputs, State.outputs, htx, htx]
    rfl
  exact congrArg (fun o => { State.instantNow (s.latchPins contacts blockIn) with out := o }) houtputs

/-- An ADC timeout at the tick of the instant comes first (assumption log 5). -/
theorem exec_sampleInstant_timeout (hworking : s.working = true) (hquiet : s.Undisturbed s.clock.remaining)
    (hdue : s.ticksTo .adc = some s.clock.remaining) : ∃ u, exec .adcTimeout s = .next u
      ∧ (u.working = false → exec (.sampleInstant contacts blockIn) s = .next u)
      ∧ (u.working = true → u.clock.stepDue = none → u.headDue = false →
          exec (.sampleInstant contacts blockIn) s = exec (.sampleInstant contacts blockIn) u) := by
  obtain ⟨htimeout, htakes⟩ := exec_adcTimeout_atInstant hworking hquiet hdue
  obtain ⟨hremaining, hstands⟩ := State.endTimeout_elapse hworking
  have hexec := exec_sampleInstant contacts blockIn hworking hquiet
  obtain ⟨-, hconv, -⟩ := (s.elapse s.clock.remaining).endTimeout_sameTime
  rw [htakes, State.instantAt] at hexec
  generalize (s.elapse s.clock.remaining).endTimeout = e at *
  refine ⟨e.driven, htimeout, fun hidle => ?_, fun hworks hstep hhead => ?_⟩
  · rw [hexec, if_neg (by rw [show e.working = false from hidle]; decide)]
  · have hworks : e.working = true := hworks
    have hquiet : e.driven.Undisturbed e.driven.clock.remaining := by
      have hzero : e.driven.clock.remaining = 0 := hremaining
      rw [hzero]
      exact ⟨hstep, hhead, by simp [State.passes], fun _ _ _ => Nat.zero_le _⟩
    have hzero : e.driven.elapse e.driven.clock.remaining = e.driven :=
      (congrArg (fun n => e.driven.elapse n) hremaining).trans (hstands hworks e.outputs)
    have hnone : e.driven.ticksTo .adc ≠ some 0 := by
      rw [State.ticksTo_adc_none (show e.driven.bay.conv ≠ .waitDrdy by
        rw [show e.driven.bay.conv = .idle from hconv]; decide)]
      simp
    rw [hexec, if_pos hworks, exec_sampleInstant contacts blockIn (show e.driven.working = true from hworks) hquiet,
      hzero, State.takeDue, if_neg hnone, State.instantAt, if_pos (show e.driven.working = true from hworks),
      State.instantNow_driven]

/-- The state in which an instant is taken, `n` ticks on and with the levels read. -/
structure State.AtInstant (s : State) (n : Nat) (contacts : PerDevice Contacts) (blockIn : Bool)
    (u : State) : Prop where
  index : u.clock.index = s.clock.index
  tick : u.clock.tick = s.clock.tick + BitVec.ofNat 32 n
  instants : u.clock.instants = s.clock.instants
  trim : u.clock.trim = s.clock.trim
  frac : u.clock.frac = s.clock.frac
  slew : u.clock.slew = s.clock.slew
  slewLive : u.clock.slewLive = s.clock.slewLive
  sync : u.clock.sync = s.clock.sync
  unlockedRun : u.clock.unlockedRun = s.clock.unlockedRun
  syncLoss : u.clock.syncLoss = s.clock.syncLoss
  acquiringElapsed : u.clock.acquiringElapsed = s.clock.acquiringElapsed
  holdoverElapsed : u.clock.holdoverElapsed = s.clock.holdoverElapsed
  dev : u.bay.dev = s.bay.dev
  debounced : u.bay.blockIn = s.bay.blockIn
  record : u.bay.record = s.bay.record
  failRun : u.bay.failRun = s.bay.failRun
  adcLost : u.bay.adcLost = s.bay.adcLost
  pins : u.pins = { s.pins with contacts := contacts, blockIn := blockIn }
  blocks : u.link = s.link ∧ u.roster = s.roster ∧ u.asm = s.asm ∧ u.replica = s.replica ∧ u.diff = s.diff
    ∧ u.trip = s.trip ∧ u.sup = s.sup ∧ u.ctl = s.ctl ∧ u.health = s.health ∧ u.pending = s.pending

theorem State.atInstant_elapse (hworking : s.working = true) (n : Nat) :
    s.AtInstant n contacts blockIn ((s.elapse n).latchPins contacts blockIn) := by
  obtain ⟨w, x, hbay⟩ := Bay.elapse_eq n s.bay
  rw [s.elapse_working hworking n, hbay]
  exact ⟨rfl, rfl, rfl, rfl, rfl, rfl, rfl, rfl, rfl, rfl, rfl, rfl, rfl, rfl, rfl, rfl, rfl, rfl,
    rfl, rfl, rfl, rfl, rfl, rfl, rfl, rfl, rfl, rfl⟩

end

/-- Settles O13: the row with and without a conversion that times out, and the instant unit by unit. -/
theorem sampleInstant : Obligations.SampleInstant := by
  unfold Obligations.SampleInstant
  intro s contacts blockIn hworking hquiet
  refine ⟨exec_sampleInstant_timeout contacts blockIn hworking hquiet, fun hnot => ?_⟩
  have hexec := exec_sampleInstant_alone contacts blockIn hworking hquiet hnot
  generalize s.clock.remaining = n at *
  have hat := State.atInstant_elapse contacts blockIn hworking n
  generalize (s.elapse n).latchPins contacts blockIn = u at *
  obtain ⟨hlink, hroster, hasm, hreplica, hdiff, htrip, hsup, hctl, hhealth, hpending⟩ := hat.blocks
  have hlimit : u.holdoverLimit = s.set8 43 * 2400 := by
    rw [State.holdoverLimit, State.set8, State.blockBytes, hctl]
    rfl
  have hmode : (u.ctl.mode == .run) = (s.ctl.mode == .run) := by rw [hctl]
  have hrun : (s.ctl.mode == .run) = true ↔ s.ctl.mode = .run := beq_iff_eq
  have htest (h : s.ctl.mode = .test) : (s.ctl.mode == .run) = false := by rw [h]; rfl
  have hclock : u.instantNow.driven.clock = u.clock.instant (u.ctl.mode == .run) u.holdoverLimit := rfl
  obtain ⟨hindex, htick, htaken, hinstants, hperiod, htrim, hrest, hlive⟩ :=
    u.clock.instant_period (u.ctl.mode == .run) u.holdoverLimit
  obtain ⟨hsync, hcounts, hunlocked, hheld, hacquired⟩ :=
    u.clock.instant_counts (u.ctl.mode == .run) u.holdoverLimit
  rw [← hclock] at hindex htick htaken hinstants hperiod htrim hrest hlive hsync hcounts hunlocked hheld hacquired
  rw [hat.index] at hindex
  rw [hat.tick] at htick
  rw [hat.instants] at hinstants
  rw [hat.trim] at htrim
  rw [hat.frac] at hrest
  rw [hmode, hlimit, hat.sync, hat.slew, hat.slewLive, hat.holdoverElapsed, hrun] at hsync
  rw [hmode, hlimit, hat.sync, hat.unlockedRun, hat.syncLoss, hat.acquiringElapsed, hat.holdoverElapsed, hrun]
    at hcounts
  rw [hmode, hat.sync, hat.unlockedRun, hat.syncLoss] at hunlocked
  rw [hmode, hat.sync, hat.holdoverElapsed] at hheld
  rw [hmode, hat.sync, hat.acquiringElapsed] at hacquired
  have hcount : u.debounceCount = s.debounceCount := by
    rw [State.debounceCount, State.debounceCount, State.set8, State.set8, State.blockBytes, State.blockBytes, hctl]
  have hdev (d : Device) : u.instantNow.driven.bay.dev.get d
      = (s.bay.dev.get d).step s.debounceCount (s.travelTime d) (rawState (contacts.get d)) := by
    have htravel : u.travelTime d = s.travelTime d := by
      cases d <;> simp only [State.travelTime, State.set16, State.blockBytes, hctl]
    rw [← hcount, ← htravel, ← hat.dev]
    exact (u.positions_dev_get d).trans (by rw [hat.pins])
  refine ⟨_, hexec, hindex, htick, htaken, hinstants, hperiod, htrim, hrest, rfl, rfl, rfl, rfl, hat.record,
    hat.failRun, hat.adcLost, hdev, ?_, someExpired_iff _, hat.pins, ?_, ?_, ?_, ?_, hroster, hreplica, hdiff, htrip,
    hsup, hctl, hhealth, hpending, hlive, hsync, hcounts, fun h => hunlocked (h.imp_left htest),
    fun h => hheld (h.imp_left htest),
    fun h => hacquired (h.imp_left htest)⟩
  · change u.bay.blockIn.step u.debounceCount u.pins.blockIn = _
    rw [hcount, hat.debounced, hat.pins]
  · have hopens : u.instantNow.driven.asm = { u.asm with
        openSets := u.asm.openSets ++ [⟨u.instantNow.driven.clock.index, .const OpenSlot.fresh⟩] } := rfl
    rw [hopens, hasm]
    rfl
  · change (u.link.statusPending || (u.ctl.mode == .run
      && u.instantNow.driven.clock.index % 2400 == 100 * u.ctl.strap % 2400)) = true ↔ _
    rw [hmode, hlink, hctl, Bool.or_eq_true, Bool.and_eq_true, hrun, beq_iff_eq]
  · exact (congrArg Link.paths hlink :)
  · exact (congrArg Link.queryPending hlink :)

end Sys2Proof.Machine
end

section
/-! PROOFS. The windows, latches and block reasons of a closure (R117, R121 to R125, R129, R130, R134 to R137), and
HOLD_COUNTER_EXPIRY and DROP_OFF_EXPIRY. -/

namespace Sys2Proof.Machine

/-! ### Windows (R121 to R123, R125) -/

section

variable (t : Slot)

/-- The sums and counts of a safe window are those of its terms, phase by phase. -/
theorem Slot.WindowSafe.totals {t : Slot} (h : t.WindowSafe) : t.fill = t.ring.length
    ∧ t.incomplete = (t.ring.filter Term.incomplete).length
    ∧ ∀ ph, t.sumD.get ph = (t.ring.map fun e => e.d.get ph).sum
      ∧ t.sumS.get ph = (t.ring.map fun e => e.s.get ph).sum := by
  obtain ⟨-, hd, hs, hfill, hincomplete, -⟩ := h
  refine ⟨hfill, hincomplete.trans List.countP_eq_length_filter, fun ph => ⟨?_, ?_⟩⟩
  · rw [hd, ringTotal_get]
  · rw [hs, ringTotal_get]

/-- What stays of a slot when a term comes in. -/
def Slot.SameRuns (t u : Slot) : Prop :=
  u.counter = t.counter ∧ u.dropOff = t.dropOff ∧ u.operate = t.operate ∧ u.phases = t.phases
    ∧ u.missing = t.missing ∧ u.notLive = t.notLive ∧ u.unknown = t.unknown

theorem Slot.dropOldest_ring : t.dropOldest.ring = t.ring.tail ∧ t.SameRuns t.dropOldest := by
  unfold Slot.dropOldest
  split
  · next h => exact ⟨by rw [h]; rfl, rfl, rfl, rfl, rfl, rfl, rfl, rfl⟩
  · next h => exact ⟨by rw [h]; rfl, rfl, rfl, rfl, rfl, rfl, rfl, rfl⟩

theorem Slot.leaving_isSome (w : Nat) (hw : 1 ≤ w) : (t.leaving w).isSome = true ↔ w ≤ t.ring.length := by
  rw [Slot.leaving]
  by_cases h : w ≤ t.ring.length
  · rw [if_pos h]
    cases hring : t.ring with
    | nil =>
      rw [hring, List.length_nil] at h
      omega
    | cons e ring => simpa [hring] using h
  · simp [h]

variable (s : State) (ms : List Member) (c : ClosedSet)

/-- The update of a window whose leaving entry is read well (R121). -/
theorem State.update_good (h : t.leavingBad s.windowW = false) :
    s.update t ms c = (if s.windowW ≤ t.ring.length then t.dropOldest else t).append (c.term ms) := by
  rw [State.update, if_neg (by simp [h])]
  by_cases hfull : s.windowW ≤ t.ring.length
  · rw [if_pos hfull, if_pos ((t.leaving_isSome _ s.windowW_pos).2 hfull)]
  · rw [if_neg hfull, if_neg fun hs => hfull ((t.leaving_isSome _ s.windowW_pos).1 hs)]

/-- The update of a window whose leaving entry has a parity error rebuilds the ring (R125). -/
theorem State.update_bad (h : t.leavingBad s.windowW = true) : s.update t ms c = t.withRing (s.rebuiltRing ms) :=
  if_pos h

/-- The terms of an updated window, and what the update leaves as it was. -/
theorem State.update_ring :
    (t.leavingBad s.windowW = false → (s.update t ms c).ring
        = (if s.windowW ≤ t.ring.length then t.ring.tail else t.ring) ++ [c.term ms])
      ∧ (t.leavingBad s.windowW = true → (s.update t ms c).ring = (s.rebuild t ms).ring)
      ∧ t.SameRuns (s.update t ms c) := by
  cases h : t.leavingBad s.windowW
  · rw [s.update_good t ms c h]
    by_cases hfull : s.windowW ≤ t.ring.length
    · rw [if_pos hfull, if_pos hfull]
      obtain ⟨hring, hruns⟩ := t.dropOldest_ring
      refine ⟨fun _ => ?_, Bool.noConfusion, hruns⟩
      rw [← hring]
      rfl
    · rw [if_neg hfull, if_neg hfull]
      exact ⟨fun _ => rfl, Bool.noConfusion, rfl, rfl, rfl, rfl, rfl, rfl, rfl⟩
  · rw [s.update_bad t ms c h]
    exact ⟨Bool.noConfusion, fun _ => rfl, rfl, rfl, rfl, rfl, rfl, rfl, rfl⟩

/-- The terms, sums and counts of a rebuilt window (R122). -/
theorem State.rebuild_totals : let u := s.rebuild t ms
    u.ring = s.rebuiltRing ms ∧ u.fill = min s.windowW s.asm.history.length
      ∧ (∀ ph, u.sumD.get ph = (u.ring.map fun e => e.d.get ph).sum)
      ∧ (∀ ph, u.sumS.get ph = (u.ring.map fun e => e.s.get ph).sum)
      ∧ u.incomplete = (u.ring.filter Term.incomplete).length := by
  intro u
  obtain ⟨hfill, hincomplete, hsums⟩ := (s.rebuild_windowSafe t ms).totals
  refine ⟨rfl, hfill.trans ?_, fun ph => (hsums ph).1, fun ph => (hsums ph).2, hincomplete⟩
  change (s.rebuiltRing ms).length = _
  rw [State.rebuiltRing, List.length_map, List.length_reverse, List.length_take]

variable (ch : Changes) (g : Zone)

theorem State.groupWindow_dissolved (h : ch.dissolved.get g = true) : s.groupWindow ch c g = Slot.initial := if_pos h

theorem State.groupWindow_rebuilds (hstays : ch.dissolved.get g = false) (h : ch.changed.get g = true) :
    s.groupWindow ch c g = s.rebuild (s.diff.groups.get g) (s.replica.membership.members.get g) := by
  rw [State.groupWindow, hstays]
  exact if_pos h

theorem State.groupWindow_idle (hstays : ch.dissolved.get g = false) (hsame : ch.changed.get g = false)
    (huse : s.replica.membership.groupOf.get g ≠ g) : s.groupWindow ch c g = s.diff.groups.get g := by
  rw [State.groupWindow, hstays, hsame]
  exact if_neg fun h => huse ((s.replica.membership.inUse_iff g).1 h)

end

/-! ### Latches (R122, R123, R129, R130) -/

theorem foldl_max_le_iff (l : List Nat) (b m : Nat) : l.foldl max b ≤ m ↔ b ≤ m ∧ ∀ x ∈ l, x ≤ m := by
  induction l generalizing b with
  | nil => simp
  | cons x l ih => simp [ih, and_assoc]

/-- The greatest of a list that holds something is one of the list. -/
theorem foldl_max_mem (l : List Nat) (b : Nat) : l.foldl max b = b ∨ l.foldl max b ∈ l := by
  induction l generalizing b with
  | nil => exact .inl rfl
  | cons x l ih =>
    rw [List.foldl_cons]
    rcases ih (max b x) with h | h
    · rw [h]
      rcases max_choice b x with hmax | hmax
      · exact .inl hmax
      · exact .inr (by rw [hmax]; exact List.mem_cons_self)
    · exact .inr (List.mem_cons_of_mem _ h)

/-- The latch carried to a rebuilt group: LATCHED when a former group was, with the largest hold counter (R130). -/
theorem carriedLatch_cases (old : Tab 4 Latch) (former : ZoneSet) :
    let l := carriedLatch old former
    let held := fun f => former.get f = true ∧ (old.get f).latched = true
    l.evidence = 0 ∧ (l.latched = true ↔ ∃ f, held f) ∧ (∀ f, held f → (old.get f).hold ≤ l.hold)
      ∧ (l.latched = true → ∃ f, held f ∧ l.hold = (old.get f).hold) ∧ (l.latched = false → l.hold = 0) := by
  intro l held
  obtain ⟨ls, hls⟩ : ∃ ls, ls = ((zones.filter former.get).map old.get).filter Latch.latched := ⟨_, rfl⟩
  have hmem (x : Latch) : x ∈ ls ↔ ∃ f, held f ∧ old.get f = x := by
    rw [hls]
    simp only [List.mem_filter, List.mem_map, mem_zones, true_and]
    constructor
    · rintro ⟨⟨f, hf, rfl⟩, hlatched⟩
      exact ⟨f, ⟨hf, hlatched⟩, rfl⟩
    · rintro ⟨f, ⟨hf, hlatched⟩, rfl⟩
      exact ⟨⟨f, hf, rfl⟩, hlatched⟩
  have hl : l = if ls.isEmpty then Latch.initial
      else { evidence := 0, latched := true, hold := (ls.map Latch.hold).foldl max 0 } := by rw [hls]; rfl
  cases hempty : ls with
  | nil =>
    rw [hempty] at hl hmem
    have hnone (f : Zone) : ¬held f := fun h => absurd ((hmem _).2 ⟨f, h, rfl⟩) List.not_mem_nil
    rw [hl]
    exact ⟨rfl, ⟨Bool.noConfusion, fun ⟨f, h⟩ => (hnone f h).elim⟩, fun f h => (hnone f h).elim, Bool.noConfusion,
      fun _ => rfl⟩
  | cons x xs =>
    rw [hempty] at hl hmem
    have hsome : ∃ f, held f := by
      obtain ⟨f, hf, -⟩ := (hmem x).1 List.mem_cons_self
      exact ⟨f, hf⟩
    rw [hl]
    refine ⟨rfl, ⟨fun _ => hsome, fun _ => rfl⟩, fun f h => ?_, fun _ => ?_, Bool.noConfusion⟩
    · exact ((foldl_max_le_iff _ 0 _).1 le_rfl).2 _ (List.mem_map_of_mem ((hmem _).2 ⟨f, h, rfl⟩))
    · rcases foldl_max_mem ((x :: xs).map Latch.hold) 0 with hzero | hin
      · obtain ⟨f, hf, hx⟩ := (hmem x).1 List.mem_cons_self
        refine ⟨f, hf, hzero.trans ?_⟩
        have hle := ((foldl_max_le_iff ((x :: xs).map Latch.hold) 0 0).1 hzero.le).2 x.hold
          (List.mem_map_of_mem List.mem_cons_self)
        rw [hx]
        omega
      · obtain ⟨y, hy, hhold⟩ := List.mem_map.1 hin
        obtain ⟨f, hf, rfl⟩ := (hmem y).1 hy
        exact ⟨f, hf, hhold.symm⟩

/-! ### Block reasons (R134 to R137) -/

/-- The window of a slot stands. -/
def Slot.SameWindow (a b : Slot) : Prop :=
  b.ring = a.ring ∧ b.sumD = a.sumD ∧ b.sumS = a.sumS ∧ b.fill = a.fill ∧ b.incomplete = a.incomplete

/-- A slot that was not blocked and now is loses OPERATE and its counter; another keeps both (R134). -/
def Slot.Blocks (before after : Bool) (a b : Slot) : Prop :=
  (before = false → after = true → b.operate = false ∧ b.counter = 0 ∧ b.phases = .const false)
    ∧ (before = true ∨ after = false → b.operate = a.operate ∧ b.counter = a.counter)

/-- What a change of reasons makes of a slot. -/
theorem Slot.unoperate_blocks {before after : Bool} {a x b : Slot}
    (hb : b = if !before && after then x.unoperate else x) (hoperate : x.operate = a.operate)
    (hcounter : x.counter = a.counter) (hwindow : a.SameWindow x) :
    a.SameWindow b ∧ a.Blocks before after b ∧ b.missing = x.missing ∧ b.notLive = x.notLive
      ∧ b.unknown = x.unknown := by
  cases before <;> cases after <;> subst hb
  · exact ⟨hwindow, ⟨fun _ h => Bool.noConfusion h, fun _ => ⟨hoperate, hcounter⟩⟩, rfl, rfl, rfl⟩
  · exact ⟨hwindow, ⟨fun _ _ => ⟨rfl, rfl, rfl⟩, fun h => h.elim Bool.noConfusion Bool.noConfusion⟩, rfl, rfl, rfl⟩
  · exact ⟨hwindow, ⟨Bool.noConfusion, fun _ => ⟨hoperate, hcounter⟩⟩, rfl, rfl, rfl⟩
  · exact ⟨hwindow, ⟨Bool.noConfusion, fun _ => ⟨hoperate, hcounter⟩⟩, rfl, rfl, rfl⟩

section

variable (d e : Diff)

/-- A change of reasons in the slots of the groups. -/
theorem Diff.reblock_group_blocks (g : Zone) (hoperate : (e.groups.get g).operate = (d.groups.get g).operate)
    (hcounter : (e.groups.get g).counter = (d.groups.get g).counter)
    (hwindow : (d.groups.get g).SameWindow (e.groups.get g)) :
    (d.groups.get g).SameWindow ((Diff.reblock d e).groups.get g)
      ∧ (d.groups.get g).Blocks (d.blocked (d.groups.get g))
          ((Diff.reblock d e).blocked ((Diff.reblock d e).groups.get g)) ((Diff.reblock d e).groups.get g)
      ∧ ((Diff.reblock d e).groups.get g).missing = (e.groups.get g).missing
      ∧ ((Diff.reblock d e).groups.get g).notLive = (e.groups.get g).notLive
      ∧ ((Diff.reblock d e).groups.get g).unknown = (e.groups.get g).unknown := by
  rw [Diff.reblock_blocked]
  exact Slot.unoperate_blocks (Tab.get_ofFn ..) hoperate hcounter hwindow

/-- The same of the check zone. -/
theorem Diff.reblock_check_blocks (hoperate : e.check.operate = d.check.operate)
    (hcounter : e.check.counter = d.check.counter) (hwindow : d.check.SameWindow e.check) :
    d.check.SameWindow (Diff.reblock d e).check
      ∧ d.check.Blocks (d.blocked d.check) ((Diff.reblock d e).blocked (Diff.reblock d e).check)
          (Diff.reblock d e).check
      ∧ (Diff.reblock d e).check.missing = e.check.missing ∧ (Diff.reblock d e).check.notLive = e.check.notLive
      ∧ (Diff.reblock d e).check.unknown = e.check.unknown := by
  rw [Diff.reblock_checkBlocked]
  exact Slot.unoperate_blocks rfl hoperate hcounter hwindow

end

section

variable (s : State)

/-- Step 1: the requests and the own-sync flags (R136, R137). -/
theorem State.diffReasons_blocks : let u := s.diffReasons.diff
    (u.ownSync = true ↔ ∃ c ∈ s.asm.history.take s.windowW, c.ownSync = true)
    ∧ (∀ g, (u.groups.get g).notLive = s.replica.requests.notLive.get g
        ∧ (u.groups.get g).unknown = s.replica.requests.unknown.get g
        ∧ (u.groups.get g).missing = (s.diff.groups.get g).missing
        ∧ (s.diff.groups.get g).SameWindow (u.groups.get g)
        ∧ (s.diff.groups.get g).Blocks (s.diff.blocked (s.diff.groups.get g)) (u.blocked (u.groups.get g))
            (u.groups.get g))
    ∧ u.check.notLive = s.replica.requests.checkNotLive ∧ u.check.unknown = s.replica.requests.checkUnknown
    ∧ u.check.missing = s.diff.check.missing ∧ s.diff.check.SameWindow u.check
    ∧ s.diff.check.Blocks (s.diff.blocked s.diff.check) (u.blocked u.check) u.check
    ∧ u.conflict = s.diff.conflict ∧ u.fault = s.diff.fault ∧ u.latches = s.diff.latches := by
  intro u
  have hgroup (g : Zone) : s.withReasons.groups.get g = { s.diff.groups.get g with
      notLive := s.replica.requests.notLive.get g, unknown := s.replica.requests.unknown.get g } := Tab.get_ofFn ..
  obtain ⟨hcheckWindow, hcheckBlocks, hcheckMissing, hcheckNotLive, hcheckUnknown⟩ :=
    s.diff.reblock_check_blocks s.withReasons rfl rfl ⟨rfl, rfl, rfl, rfl, rfl⟩
  refine ⟨List.any_eq_true, fun g => ?_, hcheckNotLive, hcheckUnknown, hcheckMissing, hcheckWindow, hcheckBlocks, rfl,
    rfl, rfl⟩
  obtain ⟨hwindow, hblocks, hmissing, hnotLive, hunknown⟩ := s.diff.reblock_group_blocks s.withReasons g
    (by rw [hgroup]) (by rw [hgroup]) (by rw [hgroup]; exact ⟨rfl, rfl, rfl, rfl, rfl⟩)
  rw [hgroup] at hmissing hnotLive hunknown
  exact ⟨hnotLive, hunknown, hmissing, hwindow, hblocks⟩

/-- Step 4: MISSING of a slot in use with an incomplete term (R135). -/
theorem State.diffMissing_blocks : let v := s.diffMissing.diff
    (∀ g, ((v.groups.get g).missing = true ↔
          s.replica.membership.groupOf.get g = g ∧ 1 ≤ (s.diff.groups.get g).incomplete)
        ∧ (v.groups.get g).notLive = (s.diff.groups.get g).notLive
        ∧ (v.groups.get g).unknown = (s.diff.groups.get g).unknown
        ∧ (s.diff.groups.get g).SameWindow (v.groups.get g)
        ∧ (s.diff.groups.get g).Blocks (s.diff.blocked (s.diff.groups.get g)) (v.blocked (v.groups.get g))
            (v.groups.get g))
    ∧ (v.check.missing = true ↔ 1 ≤ s.diff.check.incomplete) ∧ s.diff.check.SameWindow v.check
    ∧ s.diff.check.Blocks (s.diff.blocked s.diff.check) (v.blocked v.check) v.check
    ∧ v.ownSync = s.diff.ownSync ∧ v.conflict = s.diff.conflict ∧ v.fault = s.diff.fault
    ∧ v.latches = s.diff.latches := by
  intro v
  have hmissing (t : Slot) (inUse : Bool) :
      (t.withMissing inUse).missing = true ↔ inUse = true ∧ 1 ≤ t.incomplete := by
    simp [Slot.withMissing, Nat.one_le_iff_ne_zero]
  have hgroup (g : Zone) : s.withMissing.groups.get g
      = (s.diff.groups.get g).withMissing (s.replica.membership.inUse g) := Tab.get_ofFn ..
  obtain ⟨hcheckWindow, hcheckBlocks, hcheckMissing, -⟩ :=
    s.diff.reblock_check_blocks s.withMissing rfl rfl ⟨rfl, rfl, rfl, rfl, rfl⟩
  refine ⟨fun g => ?_, ?_, hcheckWindow, hcheckBlocks, rfl, rfl, rfl, rfl⟩
  · obtain ⟨hwindow, hblocks, hmissing', hnotLive, hunknown⟩ := s.diff.reblock_group_blocks s.withMissing g
      (by rw [hgroup]; rfl) (by rw [hgroup]; rfl) (by rw [hgroup]; exact ⟨rfl, rfl, rfl, rfl, rfl⟩)
    rw [hgroup] at hmissing' hnotLive hunknown
    refine ⟨?_, hnotLive, hunknown, hwindow, hblocks⟩
    rw [← s.replica.membership.inUse_iff, ← hmissing]
    exact Bool.eq_iff_iff.1 hmissing'
  · rw [show (1 ≤ s.diff.check.incomplete) ↔ (s.diff.check.withMissing true).missing = true by simp [hmissing]]
    exact Bool.eq_iff_iff.1 hcheckMissing

/-! ### Steps 3, 5 and 6 of R117 -/

theorem State.diffLatches_get (operate : Tab 4 Bool) (g : Zone) :
    (s.replica.membership.groupOf.get g = g → (s.diffLatches operate).diff.latches.get g
        = (s.diff.latches.get g).advance (operate.get g) s.iext s.thold (s.diff.groups.get g).ring.getLast?)
      ∧ (s.replica.membership.groupOf.get g ≠ g →
        (s.diffLatches operate).diff.latches.get g = s.diff.latches.get g) := by
  have hused := s.replica.membership.inUse_iff g
  exact ⟨fun h => (Tab.get_ofFn ..).trans (if_pos (hused.2 h)),
    fun h => (Tab.get_ofFn ..).trans (if_neg fun hu => h (hused.1 hu))⟩

theorem State.diffEvaluate_get (g : Zone) :
    (s.replica.membership.groupOf.get g = g → s.diffEvaluate.diff.groups.get g
        = (s.diff.groups.get g).evaluate (s.diff.blocked (s.diff.groups.get g)) s.idmin s.windowW s.nop
            (if (s.diff.latches.get g).latched then s.slopeKL else s.slopeK))
      ∧ (s.replica.membership.groupOf.get g ≠ g → s.diffEvaluate.diff.groups.get g = s.diff.groups.get g) := by
  have hused := s.replica.membership.inUse_iff g
  exact ⟨fun h => (Tab.get_ofFn ..).trans (if_pos (hused.2 h)),
    fun h => (Tab.get_ofFn ..).trans (if_neg fun hu => h (hused.1 hu))⟩

/-! ### The expiries (R129, R132) -/

theorem exec_holdCounterExpiry (hworking : s.working = true) (g : Zone)
    (hlatched : (s.diff.latches.get g).latched = true) (hhold : (s.diff.latches.get g).hold = 0) :
    exec (.holdCounterExpiry g) s = .next (State.driven { s with
      diff := { s.diff with
        latches := s.diff.latches.set g { s.diff.latches.get g with latched := false } } }) := by
  rw [exec, execHoldCounterExpiry, answer_eq]
  exact congrArg (fun t : State => Host.Outcome.next t.driven) (if_pos (by simp [hworking, hlatched, hhold]))

theorem Slot.expireDropOff_ends {t : Slot} {w : Nat} (hoperate : t.operate = true) (h : w ≤ t.dropOff) :
    t.expireDropOff w = { t with operate := false, dropOff := 0 } := if_pos (by simp [hoperate, h])

theorem exec_dropOffExpiry_group (hworking : s.working = true) (g : Zone) : exec (.dropOffExpiry (.group g)) s
    = .next (State.driven { s with diff := { s.diff with
        groups := s.diff.groups.modify g fun t => t.expireDropOff s.windowW } }) := by
  rw [exec, execDropOffExpiry, answer_eq]
  exact congrArg (fun t : State => Host.Outcome.next t.driven) (if_pos hworking)

theorem exec_dropOffExpiry_check (hworking : s.working = true) : exec (.dropOffExpiry .check) s
    = .next (State.driven { s with diff := { s.diff with check := s.diff.check.expireDropOff s.windowW } }) := by
  rw [exec, execDropOffExpiry, answer_eq]
  exact congrArg (fun t : State => Host.Outcome.next t.driven) (if_pos hworking)

end

/-- Settles O41: the two rows, the windows by their terms, the latches, and steps 1 and 3 to 6 of R117. -/
theorem diffExpiries : Obligations.DiffExpiries := by
  unfold Obligations.DiffExpiries
  refine ⟨fun s hworking => ⟨fun g hlatched hhold => ?_, fun g hoperate hruns => ?_, fun hoperate hruns => ?_⟩,
    fun s t ms c => ?_, fun s ch c => ⟨rfl, fun h => ?_⟩, fun s operate => ⟨rfl, s.diffLatches_get operate⟩,
    fun s => ⟨rfl, s.diffEvaluate_get, rfl⟩, fun s ch c old g => ⟨fun h => ?_, fun hstays h => ?_, fun hstays h => ?_⟩,
    fun s => ?_⟩
  · exact ⟨_, exec_holdCounterExpiry s hworking g hlatched hhold, (Tab.get_set ..).trans (if_pos rfl),
      fun h hne => (Tab.get_set ..).trans (if_neg hne), rfl⟩
  · refine ⟨_, exec_dropOffExpiry_group s hworking g, ?_, fun h hne => ?_, rfl⟩
    · rw [← Slot.expireDropOff_ends hoperate hruns]
      exact (Tab.get_set ..).trans (if_pos rfl)
    · exact (Tab.get_set ..).trans (if_neg hne)
  · refine ⟨_, exec_dropOffExpiry_check s hworking, ?_⟩
    rw [Slot.expireDropOff_ends hoperate hruns]
    rfl
  · obtain ⟨hring, hfill, hd, hs, hincomplete⟩ := s.rebuild_totals t ms
    obtain ⟨hupdates, hrebuilds, hcounter, hdropOff, hoperate, hphases, hmissing, hnotLive, hunknown⟩ :=
      s.update_ring t ms c
    exact ⟨hring, hfill, hd, hs, hincomplete, rfl, rfl, rfl, rfl, hupdates, hrebuilds, hcounter, hdropOff, hoperate,
      hphases, hmissing, hnotLive, hunknown, fun h => (s.update_windowSafe h ms c).totals⟩
  · rw [h]
    rfl
  · exact ⟨s.groupWindow_dissolved c ch g h, if_pos h⟩
  · have hlatch : s.groupLatch ch old g = carriedLatch old (ch.former.get g) := by
      rw [State.groupLatch, hstays]
      exact if_pos h
    rw [hlatch]
    exact ⟨s.groupWindow_rebuilds c ch g hstays h, carriedLatch_cases old (ch.former.get g)⟩
  · refine ⟨?_, ?_⟩
    · rw [State.groupLatch, hstays, h]
      rfl
    · by_cases huse : s.replica.membership.groupOf.get g = g
      · exact (s.groupWindow_updates ch c g hstays h huse).trans (if_pos huse).symm
      · exact (s.groupWindow_idle c ch g hstays h huse).trans (if_neg huse).symm
  · obtain ⟨hownSync, hgroups, hnotLive, hunknown, hmissing, hwindow, hblocks, hkept⟩ := s.diffReasons_blocks
    obtain ⟨hconflict, hfault, hlatches⟩ := hkept
    exact ⟨hownSync, hgroups, hnotLive, hunknown, hmissing, hwindow, hblocks, hconflict, hfault, hlatches,
      s.diffMissing_blocks⟩

end Sys2Proof.Machine
end

section
/-! PROOFS. SET_DEADLINE and the closure of a set with sound storage (R50, R51, R80 to R82, R93, R117, R143, R144,
R167). -/

namespace Sys2Proof.Machine

/-! ### Sound storage -/

/-- Nothing that a closure reads or checks is damaged, slot by slot and entry by entry. -/
structure State.Clean (s : State) : Prop where
  opens : ∀ o ∈ s.asm.openSets, ∀ n, (o.slots.get n).parityBad = false
  closed : ∀ c ∈ s.asm.history, ∀ n, (c.slots.get n).parityBad = false
  groups : ∀ g, ∀ e ∈ (s.diff.groups.get g).ring, e.parityBad = false
  check : ∀ e ∈ s.diff.check.ring, e.parityBad = false
  upsets : s.health.upsets = []
  block : blockCrcGood s.blockBytes = true

theorem State.sound_iff (s : State) : s.sound = true ↔ s.Clean := by
  have hopens (o : OpenSet) : o.sound = true ↔ ∀ n, (o.slots.get n).parityBad = false := by
    simp [OpenSet.sound]
  have hcloseds (c : ClosedSet) : c.sound = true ↔ ∀ n, (c.slots.get n).parityBad = false := by
    simp [ClosedSet.sound]
  have hring (t : Slot) : t.sound = true ↔ ∀ e ∈ t.ring, e.parityBad = false := by simp [Slot.sound]
  simp only [State.sound, Bool.and_eq_true, List.all_eq_true, hopens, hcloseds, hring, mem_zones, true_implies,
    List.isEmpty_iff]
  constructor
  · rintro ⟨⟨⟨⟨⟨h1, h2⟩, h3⟩, h4⟩, h5⟩, h6⟩
    exact ⟨h1, h2, h3, h4, h5, h6⟩
  · rintro ⟨h1, h2, h3, h4, h5, h6⟩
    exact ⟨⟨⟨⟨⟨h1, h2⟩, h3⟩, h4⟩, h5⟩, h6⟩

/-- Sound storage with the same sets and other windows. -/
theorem State.Clean.of_windows {s t : State} (h : s.Clean) (hasm : t.asm = s.asm)
    (hgroups : ∀ g, ∀ e ∈ (t.diff.groups.get g).ring, e.parityBad = false)
    (hcheck : ∀ e ∈ t.diff.check.ring, e.parityBad = false) (hhealth : t.health = s.health)
    (hblock : t.ctl.block = s.ctl.block) : t.Clean := by
  refine ⟨?_, ?_, hgroups, hcheck, ?_, ?_⟩
  · rw [hasm]
    exact h.opens
  · rw [hasm]
    exact h.closed
  · rw [hhealth]
    exact h.upsets
  · rw [State.blockBytes, hblock]
    exact h.block

/-- Sound storage with the same sets and windows. -/
theorem State.Clean.of_same {s t : State} (h : s.Clean) (hasm : t.asm = s.asm)
    (hgroups : ∀ g, (t.diff.groups.get g).ring = (s.diff.groups.get g).ring)
    (hcheck : t.diff.check.ring = s.diff.check.ring) (hhealth : t.health = s.health)
    (hblock : t.ctl.block = s.ctl.block) : t.Clean := by
  refine h.of_windows hasm (fun g => ?_) ?_ hhealth hblock
  · rw [hgroups]
    exact h.groups g
  · rw [hcheck]
    exact h.check

/-! ### No reports (R91, R125) -/

section

variable {s : State} (h : s.Clean)
include h

theorem State.Clean.openReports {o : OpenSet} (ho : o ∈ s.asm.openSets) : s.openReports o = [] := by
  rw [State.openReports, flatMap_ite_singleton stations]
  simp [h.opens o ho]

theorem State.Clean.histSet {k : Nat} {c : ClosedSet} (hc : s.histSet k = some c) (n : Station) :
    (c.slots.get n).parityBad = false := h.closed c (List.mem_of_find?_eq_some hc) n

theorem State.Clean.sourceReports (o : OpenSet) : s.sourceReports o = [] := by
  refine List.eq_nil_iff_forall_not_mem.2 fun f hf => ?_
  obtain ⟨n, c, -, -, -, -, hc, hbad, -⟩ := (s.mem_sourceReports o f).1 hf
  exact absurd hbad (by simp [h.histSet hc n])

theorem State.Clean.replicaReports (k : Nat) : s.replicaReports k = [] := by
  refine List.eq_nil_iff_forall_not_mem.2 fun f hf => ?_
  obtain ⟨n, c, -, hc | hc, hbad, -⟩ := (s.mem_replicaReports k f).1 hf
  · exact absurd hbad (by simp [h.histSet hc n])
  · exact absurd hbad (by simp [h.histSet hc n])

theorem State.Clean.tripReports (k : Nat) : s.tripReports k = [] := by
  refine List.eq_nil_iff_forall_not_mem.2 fun f hf => ?_
  obtain ⟨n, -, c, hc, hbad, -⟩ | ⟨n, c, -, -, hc, hbad, -⟩ := (s.mem_tripReports k f).1 hf
  · exact absurd hbad (by simp [h.closed c (List.mem_of_mem_take hc) n])
  · exact absurd hbad (by simp [h.histSet hc n])

theorem State.Clean.windowReports (name : SlotName) {t : Slot} (ht : ∀ e ∈ t.ring, e.parityBad = false)
    (ms : List Member) (changed : Bool) {c : ClosedSet} (hc : ∀ n, (c.slots.get n).parityBad = false) :
    s.windowReports name t ms changed c = [] := by
  have hleaves : ¬t.leavingBad s.windowW = true := by
    rw [Slot.leavingBad_iff]
    rintro ⟨-, e, he, hbad⟩
    exact absurd hbad (by simp [ht e (List.mem_of_mem_head? he)])
  refine List.eq_nil_iff_forall_not_mem.2 fun f hf => ?_
  obtain ⟨-, m, -, hbad, -⟩ | ⟨-, hbad, -⟩ | ⟨-, x, hx, m, -, hbad, -⟩ :=
    (s.mem_windowReports name t ms changed c f).1 hf
  · exact absurd hbad (by simp [hc m.station])
  · exact hleaves hbad
  · exact absurd hbad (by simp [h.closed x (List.mem_of_mem_take hx) m.station])

theorem State.Clean.groupReports (ch : Changes) {c : ClosedSet} (hc : ∀ n, (c.slots.get n).parityBad = false)
    (g : Zone) : s.groupReports ch c g = [] := by
  rw [State.groupReports, h.windowReports _ (h.groups g) _ _ hc, ite_self]

end

/-! ### The windows stay sound (R121 to R123) -/

section

variable (s : State) (t : Slot) (ms : List Member) (c : ClosedSet)

theorem State.rebuild_clean : ∀ e ∈ (s.rebuild t ms).ring, e.parityBad = false := by
  intro e he
  obtain ⟨x, -, rfl⟩ := List.mem_map.1 he
  rfl

theorem State.update_clean (h : ∀ e ∈ t.ring, e.parityBad = false) :
    ∀ e ∈ (s.update t ms c).ring, e.parityBad = false := by
  obtain ⟨hgood, hbad, -⟩ := s.update_ring t ms c
  cases hleaves : t.leavingBad s.windowW
  · rw [hgood hleaves]
    intro e he
    rcases List.mem_append.1 he with hring | hnew
    · refine h e ?_
      split_ifs at hring
      · exact List.mem_of_mem_tail hring
      · exact hring
    · rw [List.mem_singleton.1 hnew]
      rfl
  · rw [hbad hleaves]
    exact s.rebuild_clean t ms

theorem State.groupWindow_clean (ch : Changes) (g : Zone)
    (h : ∀ e ∈ (s.diff.groups.get g).ring, e.parityBad = false) :
    ∀ e ∈ (s.groupWindow ch c g).ring, e.parityBad = false := by
  unfold State.groupWindow
  dsimp only
  split_ifs
  · exact fun e he => absurd he List.not_mem_nil
  · exact s.rebuild_clean _ _
  · exact s.update_clean _ _ _ h
  · exact h

theorem Slot.evaluate_ring (blocked : Bool) (idmin w nop slope : Nat) :
    (t.evaluate blocked idmin w nop slope).ring = t.ring := by
  cases blocked
  · obtain ⟨operate, dropOff, heq⟩ := t.evaluate_eq idmin w nop slope
    rw [heq]
  · rfl

end

/-! ### What a closure with sound storage leaves as it was -/

/-- The mode, the fault record, the index and the Bay Input Unit stand, and the storage stays sound. -/
structure State.Calm (s t : State) : Prop where
  clean : t.Clean
  asm : t.asm = s.asm
  mode : t.ctl.mode = s.ctl.mode
  fault : t.sup.fault = s.sup.fault
  index : t.clock.index = s.clock.index
  bay : t.bay = s.bay
  pins : t.pins = s.pins

theorem State.Calm.trans {s t u : State} (h1 : s.Calm t) (h2 : t.Calm u) : s.Calm u :=
  ⟨h2.clean, h2.asm.trans h1.asm, h2.mode.trans h1.mode, h2.fault.trans h1.fault, h2.index.trans h1.index,
    h2.bay.trans h1.bay, h2.pins.trans h1.pins⟩

theorem Clock.enter_index (c : Clock) (n : SyncState) : (c.enter n).index = c.index := by cases n <;> rfl

theorem Clock.changeAuthority_index (c : Clock) (a : Authority) (pps : Bool) :
    (c.changeAuthority a pps).index = c.index := by
  unfold Clock.changeAuthority
  dsimp only
  split_ifs <;> rfl

theorem Clock.misfitRule_index (c : Clock) (fit misfit : Bool) : (c.misfitRule fit misfit).index = c.index := by
  unfold Clock.misfitRule
  dsimp only
  split_ifs
  · rfl
  · exact Clock.enter_index ..
  · rfl
  · rfl
  · rfl

theorem Clock.peerChecks_index (c : Clock) (old : Authority) (lowest : Bool) :
    (c.peerChecks old lowest).index = c.index := by
  unfold Clock.peerChecks
  split
  · split_ifs
    · exact Clock.enter_index ..
    · rfl
  · split_ifs
    · exact Clock.enter_index ..
    · rfl
    · rfl
  · split_ifs
    · exact Clock.enter_index ..
    · rfl
  · split_ifs
    · exact Clock.enter_index ..
    · rfl
  · rfl
  · rfl

section

variable {s : State} (h : s.Clean)
include h

theorem State.Clean.calm_clock {c : Clock} (hindex : c.index = s.clock.index) : s.Calm { s with clock := c } :=
  ⟨h.of_same rfl (fun _ => rfl) rfl rfl rfl, rfl, rfl, rfl, hindex, rfl, rfl⟩

theorem State.Clean.calm_diff {d : Diff} (hgroups : ∀ g, ∀ e ∈ (d.groups.get g).ring, e.parityBad = false)
    (hcheck : ∀ e ∈ d.check.ring, e.parityBad = false) : s.Calm { s with diff := d } :=
  ⟨h.of_windows rfl hgroups hcheck rfl rfl, rfl, rfl, rfl, rfl, rfl, rfl⟩

theorem State.Clean.calm_rings {d : Diff} (hgroups : ∀ g, (d.groups.get g).ring = (s.diff.groups.get g).ring)
    (hcheck : d.check.ring = s.diff.check.ring) : s.Calm { s with diff := d } :=
  ⟨h.of_same rfl hgroups hcheck rfl rfl, rfl, rfl, rfl, rfl, rfl, rfl⟩

theorem State.Clean.calm_rosterClosure : s.Calm s.rosterClosure := by
  have hentries : s.Calm s.withClosedEntries :=
    ⟨h.of_same rfl (fun _ => rfl) rfl rfl rfl, rfl, rfl, rfl, rfl, rfl, rfl⟩
  have hconflict (u : State) (hu : u.Clean) : u.Calm u.conflictClosure := by
    have hdiff : (∀ g, (u.conflictClosure.diff.groups.get g).ring = (u.diff.groups.get g).ring)
        ∧ u.conflictClosure.diff.check.ring = u.diff.check.ring := by
      unfold State.conflictClosure
      dsimp only
      split_ifs <;> exact ⟨fun _ => rfl, rfl⟩
    rw [u.conflictClosure_changes]
    exact ⟨hu.of_same rfl hdiff.1 hdiff.2 rfl rfl, rfl, rfl, rfl, rfl, rfl, rfl⟩
  have hview (u : State) (hu : u.Clean) : u.Calm u.viewClear := by
    rw [State.viewClear_eq]
    exact ⟨hu.of_same rfl (fun _ => rfl) rfl rfl rfl, rfl, rfl, rfl, rfl, rfl, rfl⟩
  by_cases hrun : s.ctl.mode = .run
  · rw [s.rosterClosure_eq hrun]
    have hcalm := hentries.trans (hconflict _ hentries.clean)
    exact hcalm.trans (hview _ hcalm.clean)
  · have hsame : s.rosterClosure = s.withClosedEntries := if_neg hrun
    rw [hsame]
    exact hentries

theorem State.Clean.calm_clockClosure (fit misfit : Bool) : s.Calm (s.clockClosure fit misfit) := by
  by_cases hrun : s.ctl.mode = .run
  · rw [s.clockClosure_run hrun]
    refine h.calm_clock ?_
    have hstart : s.clockStart.index = s.clock.index := by
      unfold State.clockStart
      split_ifs
      · exact Clock.enter_index ..
      · rfl
    have hnamed : s.clockNamed.index = s.clock.index := by
      unfold State.clockNamed
      dsimp only
      split_ifs
      · exact hstart
      · exact (Clock.changeAuthority_index ..).trans hstart
    have hmisfit := (Clock.misfitRule_index _ fit misfit).trans hnamed
    split_ifs
    · exact hmisfit
    · exact (Clock.peerChecks_index ..).trans hmisfit
  · rw [s.clockClosure_other hrun]
    exact ⟨h, rfl, rfl, rfl, rfl, rfl, rfl⟩

/-! ### Steps 1 to 6 of R117 -/

theorem State.Clean.calm_diffReasons : s.Calm s.diffReasons := by
  obtain ⟨-, hgroups, -, -, -, hcheck, -⟩ := s.diffReasons_blocks
  refine h.calm_rings (fun g => ?_) hcheck.1
  obtain ⟨-, -, -, hwindow, -⟩ := hgroups g
  exact hwindow.1

theorem State.Clean.calm_diffMissing : s.Calm s.diffMissing := by
  obtain ⟨hgroups, -, hcheck, -⟩ := s.diffMissing_blocks
  refine h.calm_rings (fun g => ?_) hcheck.1
  obtain ⟨-, -, -, hwindow, -⟩ := hgroups g
  exact hwindow.1

theorem State.Clean.calm_diffLatches (operate : Tab 4 Bool) : s.Calm (s.diffLatches operate) :=
  h.calm_rings (fun _ => rfl) rfl

theorem State.Clean.calm_diffEvaluate : s.Calm s.diffEvaluate := by
  refine h.calm_rings (fun g => ?_) (Slot.evaluate_ring ..)
  obtain ⟨huse, hidle⟩ := s.diffEvaluate_get g
  by_cases hused : s.replica.membership.groupOf.get g = g
  · exact (congrArg Slot.ring (huse hused)).trans (Slot.evaluate_ring ..)
  · exact congrArg Slot.ring (hidle hused)

theorem State.Clean.calm_diffCheck (ch : Changes) {c : ClosedSet} (hc : ∀ n, (c.slots.get n).parityBad = false) :
    s.Calm (s.diffCheck ch c) := by
  have hreports := h.windowReports .check h.check s.replica.membership.checkMembers ch.check hc
  have heq : s.diffCheck ch c = { s with diff := { s.diff with
      check := if ch.check then s.rebuild s.diff.check s.replica.membership.checkMembers
        else s.update s.diff.check s.replica.membership.checkMembers c } } := by
    rw [State.diffCheck]
    dsimp only
    rw [hreports]
    rfl
  rw [heq]
  refine h.calm_diff h.groups ?_
  dsimp only
  split_ifs
  · exact s.rebuild_clean _ _
  · exact s.update_clean _ _ _ h.check

omit h in
/-- Step 2 of R117 for some group names (R121 to R123, R130). -/
def State.withGroupsOf (s : State) (gs : List Zone) (ch : Changes) (old : Tab 4 Latch) (c : ClosedSet) : State :=
  { s with diff := { s.diff with
    groups := .ofFn fun g => if g ∈ gs then s.groupWindow ch c g else s.diff.groups.get g
    latches := .ofFn fun g => if g ∈ gs then s.groupLatch ch old g else s.diff.latches.get g } }

theorem State.Clean.diffGroup (ch : Changes) (old : Tab 4 Latch) {c : ClosedSet}
    (hc : ∀ n, (c.slots.get n).parityBad = false) (g : Zone) : s.diffGroup ch old c g = { s with diff := { s.diff with
      groups := s.diff.groups.set g (s.groupWindow ch c g)
      latches := s.diff.latches.set g (s.groupLatch ch old g) } } := by
  rw [State.diffGroup, h.groupReports ch hc g]
  rfl

end

/-! ### Step 2 of R117 for every group name -/

section

variable {s : State} {c : ClosedSet}

theorem State.groupWindow_of_same (s : State) {d : Diff} (ch : Changes) (c : ClosedSet) (g : Zone)
    (hd : d.groups.get g = s.diff.groups.get g) :
    State.groupWindow { s with diff := d } ch c g = s.groupWindow ch c g := by
  unfold State.groupWindow
  dsimp only
  rw [hd]
  rfl

theorem State.groupLatch_of_same (s : State) {d : Diff} (ch : Changes) (old : Tab 4 Latch) (g : Zone)
    (hd : d.latches.get g = s.diff.latches.get g) :
    State.groupLatch { s with diff := d } ch old g = s.groupLatch ch old g := by
  unfold State.groupLatch
  dsimp only
  rw [hd]

/-- With sound storage the group names of step 2 are independent of each other. -/
theorem State.Clean.foldl_diffGroup (h : s.Clean) (hc : ∀ n, (c.slots.get n).parityBad = false) (ch : Changes)
    (old : Tab 4 Latch) {gs : List Zone} (hnodup : gs.Nodup) :
    gs.foldl (State.diffGroup ch old c) s = s.withGroupsOf gs ch old c := by
  induction gs generalizing s with
  | nil =>
    have hgroups : Tab.ofFn (fun g => if g ∈ ([] : List Zone) then s.groupWindow ch c g else s.diff.groups.get g)
        = s.diff.groups := Tab.ext_get fun g => by simp
    have hlatches : Tab.ofFn (fun g => if g ∈ ([] : List Zone) then s.groupLatch ch old g else s.diff.latches.get g)
        = s.diff.latches := Tab.ext_get fun g => by simp
    rw [State.withGroupsOf, hgroups, hlatches]
    rfl
  | cons g gs ih =>
    obtain ⟨hnot, hrest⟩ := List.nodup_cons.1 hnodup
    obtain ⟨d, hd⟩ : ∃ d : Diff, d = { s.diff with
      groups := s.diff.groups.set g (s.groupWindow ch c g)
      latches := s.diff.latches.set g (s.groupLatch ch old g) } := ⟨_, rfl⟩
    have hgroup (f : Zone) : d.groups.get f = if f = g then s.groupWindow ch c g else s.diff.groups.get f := by
      rw [hd, Tab.get_set]
    have hlatch (f : Zone) : d.latches.get f = if f = g then s.groupLatch ch old g else s.diff.latches.get f := by
      rw [hd, Tab.get_set]
    have hstep : s.diffGroup ch old c g = { s with diff := d } := by rw [h.diffGroup ch old hc g, hd]
    have hclean : State.Clean { s with diff := d } := by
      refine (h.calm_diff (fun f => ?_) (by rw [hd]; exact h.check)).clean
      rw [hgroup]
      split_ifs with hf
      · exact s.groupWindow_clean c ch g (h.groups g)
      · exact h.groups f
    have hgroups : Tab.ofFn (fun f => if f ∈ gs then State.groupWindow { s with diff := d } ch c f else d.groups.get f)
        = Tab.ofFn (fun f => if f ∈ g :: gs then s.groupWindow ch c f else s.diff.groups.get f) := by
      refine Tab.ext_get fun f => ?_
      rw [Tab.get_ofFn, Tab.get_ofFn, hgroup]
      by_cases hf : f = g
      · rw [hf, if_neg hnot, if_pos rfl, if_pos List.mem_cons_self]
      · rw [if_neg hf, s.groupWindow_of_same ch c f ((hgroup f).trans (if_neg hf))]
        simp [hf]
    have hlatches : Tab.ofFn (fun f => if f ∈ gs then State.groupLatch { s with diff := d } ch old f
          else d.latches.get f)
        = Tab.ofFn (fun f => if f ∈ g :: gs then s.groupLatch ch old f else s.diff.latches.get f) := by
      refine Tab.ext_get fun f => ?_
      rw [Tab.get_ofFn, Tab.get_ofFn, hlatch]
      by_cases hf : f = g
      · rw [hf, if_neg hnot, if_pos rfl, if_pos List.mem_cons_self]
      · rw [if_neg hf, s.groupLatch_of_same ch old f ((hlatch f).trans (if_neg hf))]
        simp [hf]
    rw [List.foldl_cons, hstep, ih hclean hrest, State.withGroupsOf, State.withGroupsOf, ← hgroups, ← hlatches, hd]

/-- Step 2 of R117 (R121 to R123, R130). -/
def State.withGroups (s : State) (ch : Changes) (old : Tab 4 Latch) (c : ClosedSet) : State :=
  { s with diff := { s.diff with
    groups := .ofFn fun g => s.groupWindow ch c g
    latches := .ofFn fun g => s.groupLatch ch old g } }

theorem State.withGroupsOf_zones (s : State) (ch : Changes) (old : Tab 4 Latch) (c : ClosedSet) :
    s.withGroupsOf zones ch old c = s.withGroups ch old c := by
  simp only [State.withGroupsOf, State.withGroups, mem_zones, if_true]

theorem State.Clean.calm_withGroups (h : s.Clean) (ch : Changes) (old : Tab 4 Latch) (c : ClosedSet) :
    s.Calm (s.withGroups ch old c) := by
  refine h.calm_diff (fun g => ?_) h.check
  rw [Tab.get_ofFn]
  exact s.groupWindow_clean c ch g (h.groups g)

/-- Steps 1 to 6 of R117 with sound storage. -/
theorem State.Clean.differential (h : s.Clean) (hc : ∀ n, (c.slots.get n).parityBad = false) (ch : Changes) :
    s.differential ch c = State.diffEvaluate (State.diffLatches (State.diffMissing
        ((s.diffReasons.withGroups ch s.diff.latches c).diffCheck ch c))
        (s.diffReasons.withGroups ch s.diff.latches c).diff.operates)
      ∧ s.Calm (s.differential ch c) := by
  have hreasons := h.calm_diffReasons
  have hfold := hreasons.clean.foldl_diffGroup hc ch s.diff.latches (gs := zones) (by decide)
  rw [State.withGroupsOf_zones] at hfold
  have heq : s.differential ch c = State.diffEvaluate (State.diffLatches (State.diffMissing
        ((s.diffReasons.withGroups ch s.diff.latches c).diffCheck ch c))
        (s.diffReasons.withGroups ch s.diff.latches c).diff.operates) := by
    rw [State.differential, hfold]
  have hgroups := hreasons.trans (hreasons.clean.calm_withGroups ch s.diff.latches c)
  have hcheck := hgroups.trans (hgroups.clean.calm_diffCheck ch hc)
  have hmissing := hcheck.trans hcheck.clean.calm_diffMissing
  have hlatches := hmissing.trans (hmissing.clean.calm_diffLatches
    (s.diffReasons.withGroups ch s.diff.latches c).diff.operates)
  exact ⟨heq, heq ▸ hlatches.trans hlatches.clean.calm_diffEvaluate⟩

/-! ### The datapath check, the Trip Unit and the recheck (R144, R164, R167) -/

theorem State.Clean.calm_datapathCheck (h : s.Clean) (k : Nat) : s.Calm (s.datapathCheck k) := by
  have hnone : s.health.failing s.sup.invertMask = none := by
    refine s.health.failing_eq_none _ fun p => ?_
    rw [Health.sums, h.upsets]
    rfl
  unfold State.datapathCheck
  dsimp only
  split_ifs
  · rw [hnone]
    exact ⟨h.of_same rfl (fun _ => rfl) rfl rfl rfl, rfl, rfl, rfl, rfl, rfl, rfl⟩
  · exact ⟨h, rfl, rfl, rfl, rfl, rfl, rfl⟩

theorem State.Clean.calm_withTrip (h : s.Clean) (t : Trip) : s.Calm (s.withTrip t) :=
  ⟨h.of_same rfl (fun _ => rfl) rfl rfl rfl, rfl, rfl, rfl, rfl, rfl, rfl⟩

/-- The Trip Unit after steps 1 to 4 of R144. -/
def State.tripDemand (s : State) (h : Handed) (k : Nat) : State :=
  let t1 := s.withTrip s.tripSums
  let t2 := t1.withTrip (t1.tripRequests k)
  let t3 := t2.withTrip t2.tripBf
  t3.withTrip (t3.tripCauses h)

theorem State.Clean.tripUnit (h : s.Clean) (handed : Handed) (k : Nat) :
    s.tripUnit handed k = (s.tripDemand handed k).withTrip
        (((s.tripDemand handed k).tripOutput handed (s.ctl.mode == .test) k).setState (s.ctl.mode == .test))
      ∧ s.Calm (s.tripUnit handed k) := by
  have heq : s.tripUnit handed k = (s.tripDemand handed k).withTrip
      (((s.tripDemand handed k).tripOutput handed (s.ctl.mode == .test) k).setState (s.ctl.mode == .test)) := by
    rw [State.tripUnit, h.tripReports k]
    rfl
  have hstep (u : State) (f : State → Trip) (hu : s.Calm u) : s.Calm (u.withTrip (f u)) :=
    hu.trans (hu.clean.calm_withTrip _)
  have hdemand : s.Calm (s.tripDemand handed k) := hstep _ (·.tripCauses handed) (hstep _ State.tripBf
    (hstep _ (·.tripRequests k) (h.calm_withTrip s.tripSums)))
  rw [heq]
  exact ⟨rfl, hdemand.trans (hdemand.clean.calm_withTrip _)⟩

theorem State.Clean.calm_recheckClosure (h : s.Clean) : s.Calm s.recheckClosure := by
  unfold State.recheckClosure
  split_ifs
  · exact ⟨h, rfl, rfl, rfl, rfl, rfl, rfl⟩
  · rw [s.recheckBlock_good h.block]
    exact ⟨h.of_same rfl (fun _ => rfl) rfl rfl rfl, rfl, rfl, rfl, rfl, rfl, rfl⟩
  · exact ⟨h.of_same rfl (fun _ => rfl) rfl rfl rfl, rfl, rfl, rfl, rfl, rfl, rfl⟩

end

/-! ### A closure with sound storage, block by block (assumption log 13) -/

section

variable {s : State} {o : OpenSet} {rest : List OpenSet}

/-- A slot is closed with good parity (R91). -/
theorem State.closedSet_clean (s : State) (o : OpenSet) (n : Station) :
    ((s.closedSet o).slots.get n).parityBad = false := by
  have hsubstitute (b : SlotBody) : (s.substitute o.index n b).parityBad = false := by
    unfold State.substitute
    split <;> rfl
  have hslot (b : SlotBody) : (s.settleSlot o.index n b).parityBad = false := by
    unfold State.settleSlot
    split_ifs
    · exact hsubstitute b
    · split
      · split_ifs <;> rfl
      · rfl
      · rfl
  change ((s.settleSlots o).get n).parityBad = false
  rw [State.settleSlots, Tab.get_ofFn]
  split_ifs
  · exact hslot _
  · rfl

/-- Settling with sound storage (R83 to R91). -/
theorem State.Clean.settle (h : s.Clean) (ho : o ∈ s.asm.openSets) : s.settle o = { s with
    asm := s.assemblerAfter o, link := s.linkAfter o, roster := s.rosterSubst (s.closedSet o) } := by
  rw [State.settle, h.openReports ho, h.sourceReports o]
  rfl

theorem State.Clean.settle_clean (h : s.Clean) (ho : o ∈ s.asm.openSets) : (s.settle o).Clean := by
  rw [h.settle ho]
  refine ⟨fun x hx => h.opens x (List.mem_of_mem_tail hx), fun c hc n => ?_, h.groups, h.check, h.upsets, h.block⟩
  obtain rfl | hc := List.mem_cons.1 hc
  · exact s.closedSet_clean o n
  · exact h.closed c (List.mem_of_mem_take hc) n

/-- The state in which a closure reaches the replica: after settling, the roster and the clock. -/
def State.beforeReplica (s : State) (o : OpenSet) : State :=
  (s.settle o).rosterClosure.clockClosure s.asm.fit s.asm.misfit

theorem State.Clean.calm_beforeReplica (h : s.Clean) (ho : o ∈ s.asm.openSets) :
    (s.settle o).Calm (s.beforeReplica o) := by
  have hroster := (h.settle_clean ho).calm_rosterClosure
  exact hroster.trans (hroster.clean.calm_clockClosure s.asm.fit s.asm.misfit)

/-- The station with the replica's next state (R95). -/
def State.withReplica (s : State) (r : Replica) : State := { s with replica := r }

/-- The replica's and the Differential Unit's work for set `c` without a report (R95, R117). -/
def State.zoneNext (s : State) (c : ClosedSet) : State :=
  (s.withReplica (s.replicaNext c.index).1).differential (s.replicaNext c.index).2 c

/-- The protection work of a set with sound storage. -/
theorem State.Clean.protectionWork (h : s.Clean) {c : ClosedSet} (hc : ∀ n, (c.slots.get n).parityBad = false)
    (hnewest : s.newestClosed = some c) :
    s.protectionWork = ((s.zoneNext c).datapathCheck c.index).tripUnit (s.zoneNext c).diff.handed c.index
      ∧ s.Calm (s.zoneNext c) ∧ s.Calm s.protectionWork := by
  have hreplica (r : Replica) : s.Calm (s.withReplica r) :=
    ⟨h.of_same rfl (fun _ => rfl) rfl rfl rfl, rfl, rfl, rfl, rfl, rfl, rfl⟩
  have hzone : s.zoneWork c = s.zoneNext c := by
    rw [State.zoneWork, h.replicaReports]
    rfl
  have hnext : s.Calm (s.zoneNext c) := by
    have hcalm := hreplica (s.replicaNext c.index).1
    exact hcalm.trans (hcalm.clean.differential hc (s.replicaNext c.index).2).2
  have hwork : s.protectionWork
      = ((s.zoneNext c).datapathCheck c.index).tripUnit (s.zoneNext c).diff.handed c.index := by
    rw [State.protectionWork, hnewest]
    dsimp only
    rw [hzone]
  rw [hwork]
  generalize s.zoneNext c = d at *
  have hdatapath := hnext.trans (hnext.clean.calm_datapathCheck c.index)
  exact ⟨rfl, hnext, hdatapath.trans (hdatapath.clean.tripUnit d.diff.handed c.index).2⟩

/-- The work of a closure with sound storage. -/
theorem State.Clean.closureWork (h : s.Clean) (ho : o ∈ s.asm.openSets) :
    s.closureWork o = (((s.beforeReplica o).zoneNext (s.closedSet o)).datapathCheck o.index).tripUnit
        ((s.beforeReplica o).zoneNext (s.closedSet o)).diff.handed o.index
      ∧ (s.beforeReplica o).Calm ((s.beforeReplica o).zoneNext (s.closedSet o))
      ∧ (s.settle o).Calm (s.closureWork o) := by
  have hbefore := h.calm_beforeReplica ho
  have hnewest : (s.beforeReplica o).newestClosed = some (s.closedSet o) := by
    rw [State.newestClosed, hbefore.asm, h.settle ho]
    rfl
  obtain ⟨hwork, hnext, hcalm⟩ := hbefore.clean.protectionWork (s.closedSet_clean o) hnewest
  exact ⟨hwork, hnext, hbefore.trans hcalm⟩

/-- The closure of the oldest set of a station at work with sound storage is finished (R93, R143). -/
theorem State.Clean.closeHead (h : s.Clean) (hworking : s.working = true) (ho : s.asm.openSets = o :: rest) :
    s.closeHead = (s.closureWork o).recheckClosure ∧ (s.closureWork o).ctl.mode = s.ctl.mode
      ∧ (s.settle o).Calm s.closeHead := by
  have hmem : o ∈ s.asm.openSets := by
    rw [ho]
    exact List.mem_cons_self
  obtain ⟨-, -, hcalm⟩ := h.closureWork hmem
  have hmode : (s.closureWork o).ctl.mode = s.ctl.mode := by
    rw [hcalm.mode, h.settle hmem]
  have hcloses : s.closeHead = (s.closureWork o).recheckClosure := by
    have hnot : (s.closureWork o).ctl.mode ≠ .halted := by
      rw [hmode]
      rcases (s.working_iff.1 hworking).1 with hm | hm <;> rw [hm] <;> decide
    rw [State.closeHead, ho]
    exact s.closeSet_finishes o hnot
  rw [hcloses]
  exact ⟨rfl, hmode, hcalm.trans hcalm.clean.calm_recheckClosure⟩

end

/-! ### Completion (R81) -/

section

variable (s : State)

theorem PathState.good_iff_up (p : PathState) : p.good = true ↔ p = .up ∨ p = .degraded := by cases p <;> decide

/-- A slot is no longer waited for (R81). -/
theorem State.slotDone_iff (n : Station) (b : SlotBody) : s.slotDone n b = true ↔ b = .damaged
    ∨ ∃ c other, b = .filled c other ∧ (s.isOwn n = true ∨ other = true ∨ c.path = none
      ∨ ∃ p, c.path = some p ∧ (s.link.paths.get p.other).state ≠ .up
          ∧ (s.link.paths.get p.other).state ≠ .degraded) := by
  cases b with
  | empty => simp [State.slotDone]
  | damaged => simp [State.slotDone]
  | filled c other =>
    have hbad (p : PathState) : p.good = false ↔ p ≠ .up ∧ p ≠ .degraded := by cases p <;> decide
    have hdone : s.slotDone n (.filled c other) = true ↔ s.isOwn n = true ∨ other = true ∨ c.path = none
        ∨ ∃ p, c.path = some p ∧ (s.link.paths.get p.other).state ≠ .up
            ∧ (s.link.paths.get p.other).state ≠ .degraded := by
      cases hpath : c.path <;> simp [State.slotDone, hpath, hbad, or_assoc]
    refine hdone.trans ⟨fun h => .inr ⟨c, other, rfl, h⟩, ?_⟩
    rintro (hdamaged | ⟨c', other', hsame, h⟩)
    · exact SlotBody.noConfusion hdamaged
    · obtain ⟨rfl, rfl⟩ := SlotBody.filled.inj hsame
      exact h

theorem State.headComplete_iff {o : OpenSet} {rest : List OpenSet} (hworking : s.working = true)
    (ho : s.asm.openSets = o :: rest) : s.headComplete = true ↔
      ∀ n, s.inPop n = true → s.slotDone n (o.slots.get n).body = true := by
  simp only [State.headComplete, ho, hworking, Bool.true_and, List.all_eq_true, mem_stations, true_implies,
    Bool.or_eq_true, Bool.not_eq_true', or_iff_not_imp_left, Bool.not_eq_false]

theorem State.headComplete_nil (h : s.asm.openSets = []) : s.headComplete = false := by
  rw [State.headComplete, h]

theorem State.headComplete_idle (h : s.working = false) : s.headComplete = false := by
  unfold State.headComplete
  split
  · rfl
  · rw [h, Bool.false_and]

/-! ### Complete sets close in order (R82) -/

/-- A closure takes the oldest set from the open ones, or leaves the station out of work. -/
theorem State.closeHead_shortens (ho : s.asm.openSets ≠ []) :
    s.closeHead.working = false ∨ s.closeHead.asm.openSets.length + 1 ≤ s.asm.openSets.length := by
  obtain ⟨hnone, -⟩ | ⟨o, rest, hopen, ⟨-, heq⟩ | ⟨-, heq⟩⟩ := s.closeHead_cases
  · exact absurd hnone ho
  · right
    have hsettled : (s.settle o).asm.openSets.length + 1 = s.asm.openSets.length := by
      have hasm : (s.takeFaults (s.openReports o ++ s.sourceReports o)).asm = s.asm :=
        State.takeFaults_keeps (P := fun u => u.asm = s.asm) (fun u f h => (u.takeFault_stores f).1.trans h) _ rfl
      have htail : (s.settle o).asm.openSets
          = (s.takeFaults (s.openReports o ++ s.sourceReports o)).asm.openSets.tail := rfl
      rw [htail, hasm, hopen]
      rfl
    rw [heq, ← hsettled]
    exact Nat.succ_le_succ ((s.sameTime_afterSettle o).trans (State.sameTime_recheckClosure _)).opens
  · left
    have hhalted : s.closeHead.ctl.mode = .halted := by rw [heq]; rfl
    rw [State.working, hhalted]
    rfl

/-- Complete sets close one after the other until the oldest is not complete, within the fuel that the open sets
give. -/
theorem State.closeCompleteN_iterate (fuel : Nat) (h : s.working = false ∨ s.asm.openSets.length ≤ fuel) :
    ∃ n, n ≤ fuel ∧ State.closeCompleteN fuel s = State.closeHead^[n] s
      ∧ (∀ i, i < n → (State.closeHead^[i] s).headComplete = true)
      ∧ (State.closeHead^[n] s).headComplete = false := by
  induction fuel generalizing s with
  | zero =>
    refine ⟨0, le_rfl, rfl, fun i hi => absurd hi (Nat.not_lt_zero i), ?_⟩
    rcases h with hidle | hnone
    · exact s.headComplete_idle hidle
    · exact s.headComplete_nil (List.length_eq_zero_iff.1 (Nat.le_zero.1 hnone))
  | succ fuel ih =>
    by_cases hcomplete : s.headComplete = true
    · have hopen : s.asm.openSets ≠ [] := fun hnil => by simp [s.headComplete_nil hnil] at hcomplete
      have hlength : s.asm.openSets.length ≤ fuel + 1 :=
        h.resolve_left fun hidle => by simp [s.headComplete_idle hidle] at hcomplete
      obtain ⟨n, hn, heq, hall, hlast⟩ := ih s.closeHead
        ((s.closeHead_shortens hopen).imp_right fun hshort => by omega)
      refine ⟨n + 1, by omega, ?_, fun i hi => ?_, hlast⟩
      · rw [State.closeCompleteN, if_pos hcomplete, heq]
        rfl
      · cases i with
        | zero => exact hcomplete
        | succ i => exact hall i (by omega)
    · refine ⟨0, Nat.zero_le _, ?_, fun i hi => absurd hi (Nat.not_lt_zero i), Bool.eq_false_iff.2 hcomplete⟩
      rw [State.closeCompleteN, if_neg hcomplete]
      rfl

end

/-! ### Closures in a row with sound storage -/

section

variable {s : State}

/-- After `i` closures of a station at work with sound storage. -/
structure State.Closed (s : State) (i : Nat) (t : State) : Prop where
  clean : t.Clean
  opens : t.asm.openSets = s.asm.openSets.drop i
  history : (t.asm.history.map ClosedSet.index).take 48
    = (((s.asm.openSets.take i).map OpenSet.index).reverse ++ s.asm.history.map ClosedSet.index).take 48
  most : 1 ≤ i → t.asm.history.length ≤ 48
  mode : t.ctl.mode = s.ctl.mode
  fault : t.sup.fault = s.sup.fault
  index : t.clock.index = s.clock.index
  bay : t.bay = s.bay
  pins : t.pins = s.pins

theorem State.Clean.closed_iterate (h : s.Clean) (hworking : s.working = true) (i : Nat)
    (hi : i ≤ s.asm.openSets.length) : s.Closed i (State.closeHead^[i] s) := by
  induction i with
  | zero =>
    exact ⟨h, rfl, rfl, fun h => absurd h (by decide), rfl, rfl, rfl, rfl, rfl⟩
  | succ i ih =>
    have hlt : i < s.asm.openSets.length := hi
    rw [Function.iterate_succ_apply']
    have hclosed := ih (by omega)
    generalize State.closeHead^[i] s = t at *
    have hopen : t.asm.openSets = s.asm.openSets[i] :: s.asm.openSets.drop (i + 1) := by
      rw [hclosed.opens, List.drop_eq_getElem_cons hlt]
    have hworks : t.working = true := by
      rw [State.working, State.resetHeld, hclosed.mode, hclosed.pins]
      exact hworking
    obtain ⟨-, -, hcalm⟩ := hclosed.clean.closeHead hworks hopen
    have hmem : s.asm.openSets[i] ∈ t.asm.openSets := by
      rw [hopen]
      exact List.mem_cons_self
    have hsettle := hclosed.clean.settle hmem
    have hasm : t.closeHead.asm = t.assemblerAfter s.asm.openSets[i] := by rw [hcalm.asm, hsettle]
    have hhistory : t.closeHead.asm.history.map ClosedSet.index
        = s.asm.openSets[i].index :: (t.asm.history.map ClosedSet.index).take 47 := by
      rw [hasm]
      change (t.closedSet _ :: t.asm.history.take 47).map ClosedSet.index = _
      rw [List.map_cons, List.map_take]
      rfl
    refine ⟨hcalm.clean, ?_, ?_, fun _ => ?_, ?_, ?_, ?_, ?_, ?_⟩
    · rw [hasm]
      change t.asm.openSets.tail = _
      rw [hopen]
      rfl
    · have htake : (t.asm.history.map ClosedSet.index).take 47
          = (((s.asm.openSets.take i).map OpenSet.index).reverse ++ s.asm.history.map ClosedSet.index).take 47 := by
        have hforty := congrArg (List.take 47) hclosed.history
        rwa [List.take_take, List.take_take] at hforty
      rw [hhistory, List.take_succ_eq_append_getElem hlt, List.map_append, List.reverse_append, List.take_succ_cons,
        List.take_take, min_self, htake]
      rfl
    · rw [hasm]
      change (t.closedSet _ :: t.asm.history.take 47).length ≤ 48
      rw [List.length_cons, List.length_take]
      omega
    · rw [hcalm.mode, hsettle]
      exact hclosed.mode
    · rw [hcalm.fault, hsettle]
      exact hclosed.fault
    · rw [hcalm.index, hsettle]
      exact hclosed.index
    · rw [hcalm.bay, hsettle]
      exact hclosed.bay
    · rw [hcalm.pins, hsettle]
      exact hclosed.pins

/-- SET_DEADLINE at the deadline of the oldest set (R80). -/
theorem exec_setDeadline {o : OpenSet} {rest : List OpenSet} (hworking : s.working = true)
    (hstep : s.clock.stepDue = none) (ho : s.asm.openSets = o :: rest) (hdue : s.ta ≤ ahead s.clock.index o.index)
    (hrange : ahead s.clock.index o.index < 24000) :
    exec .setDeadline s = .next s.closeHead.closeComplete.driven := by
  have hhead : s.headDue = true := by
    simp [State.headDue, ho, hworking, hdue, hrange, Config.indexHalf]
  rw [exec, execSetDeadline, answer_eq, State.takeStep_none s hstep, State.deadline, if_pos hhead]

end

/-! ### The charges of a closure (R50, R51) -/

section

variable (s : State) (o : OpenSet)

/-- A path is charged for a peer that was LIVE and whose slot the other path alone filled, both being good (R51). -/
def State.Charged (s : State) (o : OpenSet) (p : Path) (n : Station) : Prop :=
  s.inPop n = true ∧ s.isOwn n = false ∧ (s.entry n).liveAtClosure = true
    ∧ ((s.link.paths.get p).state = .up ∨ (s.link.paths.get p).state = .degraded)
    ∧ ((s.link.paths.get p.other).state = .up ∨ (s.link.paths.get p.other).state = .degraded)
    ∧ ∃ c, (o.slots.get n).body = .filled c false ∧ c.path = some p.other

theorem path_other_other (p : Path) : p.other.other = p := by cases p <;> rfl

theorem State.chargedPath_iff {n : Station} (hgood : (o.slots.get n).parityBad = false) (p : Path) :
    s.chargedPath o n = some p ↔ s.Charged o p n := by
  rw [State.chargedPath, State.Charged, OpenSlot.settled_of_good hgood]
  simp only [← PathState.good_iff_up]
  by_cases hpeer : s.inPop n = true ∧ s.isOwn n = false ∧ (s.entry n).liveAtClosure = true
  · obtain ⟨hpop, hown, hlive⟩ := hpeer
    rw [if_neg (by simp [hpop, hown, hlive])]
    simp only [hpop, hown, hlive, true_and]
    cases hbody : (o.slots.get n).body with
    | empty => simp
    | damaged => simp
    | filled c other =>
      cases other with
      | true => simp
      | false =>
        have hsingle : (∃ x, SlotBody.filled c false = .filled x false ∧ x.path = some p.other)
            ↔ c.path = some p.other :=
          ⟨fun ⟨x, hx, hpath⟩ => (SlotBody.filled.inj hx).1 ▸ hpath, fun hpath => ⟨c, rfl, hpath⟩⟩
        rw [hsingle]
        cases hpath : c.path with
        | none => simp [hpath]
        | some q =>
          simp only [hpath, Option.ite_none_right_eq_some, Bool.and_eq_true, Option.some.injEq]
          constructor
          · rintro ⟨⟨hq, hother⟩, rfl⟩
            rw [path_other_other]
            exact ⟨hother, hq, rfl⟩
          · rintro ⟨hp, hother, rfl⟩
            rw [path_other_other]
            exact ⟨⟨hother, hp⟩, rfl⟩
  · have hnone : (s.isOwn n || !s.inPop n || !(s.entry n).liveAtClosure) = true := by
      by_contra hc
      simp only [Bool.or_eq_true, Bool.not_eq_true', not_or, Bool.not_eq_true, Bool.not_eq_false] at hc
      exact hpeer ⟨hc.1.2, hc.1.1, hc.2⟩
    rw [if_pos hnone]
    simp only [reduceCtorEq, false_iff]
    rintro ⟨hpop, hown, hlive, -⟩
    exact hpeer ⟨hpop, hown, hlive⟩

/-- The number of charges is that of any list of the stations charged. -/
theorem State.chargeCount_eq (hgood : ∀ n, (o.slots.get n).parityBad = false) (p : Path) {ns : List Station}
    (hnodup : ns.Nodup) (hns : ∀ n, n ∈ ns ↔ s.Charged o p n) : s.chargeCount o p = ns.length := by
  rw [State.chargeCount, List.countP_eq_length_filter]
  refine ((List.perm_ext_iff_of_nodup ?_ hnodup).2 fun n => ?_).length_eq
  · exact (stations_pairwise.imp fun hlt => ne_of_lt hlt).filter _
  · rw [List.mem_filter, hns, ← s.chargedPath_iff o (hgood n) p, beq_iff_eq]
    exact and_iff_right (mem_stations n)

theorem PathCtl.charge_good {p : PathCtl} (h : p.state = .up ∨ p.state = .degraded) (n : Nat) :
    p.charge n = { p with
      health := min 255 (p.health + n)
      state := if 255 ≤ min 255 (p.health + n) then .failed
        else if 96 ≤ min 255 (p.health + n) then .degraded else .up } := by
  have hnot : ¬p.state = .down := by rcases h with h | h <;> rw [h] <;> decide
  rw [PathCtl.charge, if_neg hnot, PathCtl.evaluate]
  rcases h with h | h <;> simp only [h]

/-- A path with no charge stays; another takes 8 for each, and its state follows the count. -/
theorem State.linkAfter_path (hgood : ∀ n, (o.slots.get n).parityBad = false) (p : Path) :
    ((∀ n, ¬s.Charged o p n) → (s.linkAfter o).paths.get p = s.link.paths.get p)
      ∧ ∀ ns : List Station, ns ≠ [] → ns.Nodup → (∀ n, n ∈ ns ↔ s.Charged o p n) →
        (s.linkAfter o).paths.get p = { s.link.paths.get p with
          health := min 255 ((s.link.paths.get p).health + 8 * ns.length)
          state := if 255 ≤ min 255 ((s.link.paths.get p).health + 8 * ns.length) then .failed
            else if 96 ≤ min 255 ((s.link.paths.get p).health + 8 * ns.length) then .degraded else .up } := by
  have hpath : (s.linkAfter o).paths.get p = (s.link.paths.get p).chargeFrames (s.chargeCount o p) := by
    cases p <;> rfl
  rw [hpath]
  refine ⟨fun hnone => ?_, fun ns hne hnodup hns => ?_⟩
  · rw [s.chargeCount_eq o hgood p List.nodup_nil fun n => ⟨fun h => absurd h List.not_mem_nil,
      fun h => (hnone n h).elim⟩]
    rfl
  · rw [s.chargeCount_eq o hgood p hnodup hns, PathCtl.chargeFrames,
      if_neg (fun h => hne (List.length_eq_zero_iff.1 h))]
    obtain ⟨n, hn⟩ := List.exists_mem_of_ne_nil ns hne
    obtain ⟨-, -, -, hstate, -⟩ := (hns n).1 hn
    exact PathCtl.charge_good hstate _

/-! ### What settling leaves (R69, R87 to R90) -/

/-- The last-bay record of a station after a closure (R88). -/
theorem State.assemblerAfter_lastBay {n : Station} (hgood : (o.slots.get n).parityBad = false) :
    (∀ c other, s.inPop n = true → (o.slots.get n).body = .filled c other →
        (s.assemblerAfter o).lastBay.get n = some c.bay)
      ∧ (s.inPop n = false ∨ (o.slots.get n).body = .empty ∨ (o.slots.get n).body = .damaged →
        (s.assemblerAfter o).lastBay.get n = s.asm.lastBay.get n) := by
  have hget : (s.assemblerAfter o).lastBay.get n = (match if s.inPop n then (o.slots.get n).body.kept else none with
      | some k => some k.bay
      | none => s.asm.lastBay.get n) := by
    rw [← OpenSlot.settled_of_good hgood]
    exact Tab.get_ofFn ..
  rw [hget]
  refine ⟨fun c other hpop hbody => ?_, fun h => ?_⟩
  · simp only [hpop, if_true, hbody, SlotBody.kept]
  · have hnone : (if s.inPop n then (o.slots.get n).body.kept else none) = none := by
      rcases h with h | h | h
      · simp [h]
      · simp [h, SlotBody.kept]
      · simp [h, SlotBody.kept]
    simp only [hnone]

end

/-! ### The closure as one chain of works (assumption log 13) -/

/-- With sound storage a closure is the chain that the obligation spells out. -/
theorem closure_chain (s : State) (o : OpenSet) (rest : List OpenSet) (hworking : s.working = true)
    (hsound : s.sound = true) (ho : s.asm.openSets = o :: rest) :
    let k := o.index
    let c := s.closedSet o
    let a := (s.settle o).rosterClosure.clockClosure s.asm.fit s.asm.misfit
    let r := a.replicaNext k
    let put := fun (u : State) (t : Trip) => { u with trip := t, ctl := { u.ctl with tripReported := t.output } }
    let d1 := State.diffReasons { a with replica := r.1 }
    let d2 := { d1 with diff := { d1.diff with
      groups := .ofFn fun g => d1.groupWindow r.2 c g
      latches := .ofFn fun g => d1.groupLatch r.2 a.diff.latches g } }
    let d4 := (d2.diffCheck r.2 c).diffMissing
    let d6 := (d4.diffLatches (.ofFn fun g => (d2.diff.groups.get g).operate)).diffEvaluate
    let handed : Handed := ⟨.ofFn fun g => (d6.diff.groups.get g).operate, .ofFn fun g => (d6.diff.groups.get g).phases,
      d6.diff.check.operate, d6.diff.check.phases⟩
    let t0 := d6.datapathCheck k
    let t1 := put t0 t0.tripSums
    let t2 := put t1 (t1.tripRequests k)
    let t3 := put t2 t2.tripBf
    let t4 := put t3 (t3.tripCauses handed)
    let test := decide (s.ctl.mode = .test)
    s.closureWork o = put t4 ((t4.tripOutput handed test k).setState test)
      ∧ s.closeHead = (s.closureWork o).recheckClosure ∧ (s.closureWork o).ctl.mode = s.ctl.mode := by
  intro k c a r put d1 d2 d4 d6 handed t0 t1 t2 t3 t4 test
  have h := s.sound_iff.1 hsound
  have hmem : o ∈ s.asm.openSets := by
    rw [ho]
    exact List.mem_cons_self
  obtain ⟨hwork, hnext, -⟩ := h.closureWork hmem
  obtain ⟨hcloses, hmode, -⟩ := h.closeHead hworking ho
  refine ⟨?_, hcloses, hmode⟩
  have hbefore : a.Clean := (h.calm_beforeReplica hmem).clean
  have hreplica : State.Clean { a with replica := r.1 } := hbefore.of_same rfl (fun _ => rfl) rfl rfl rfl
  have hd6 : (s.beforeReplica o).zoneNext (s.closedSet o) = d6 :=
    (hreplica.differential (s.closedSet_clean o) r.2).1
  rw [hd6] at hwork hnext
  have hcheck := hnext.clean.calm_datapathCheck k
  have hmode0 : t0.ctl.mode = s.ctl.mode := by
    refine ((h.calm_beforeReplica hmem).trans (hnext.trans hcheck)).mode.trans ?_
    rw [h.settle hmem]
  have hunit : s.closureWork o = t0.tripUnit handed k := hwork
  have hclean : t0.Clean := hcheck.clean
  have hchain : s.closureWork o = (t0.tripDemand handed k).withTrip
      (((t0.tripDemand handed k).tripOutput handed (t0.ctl.mode == .test) k).setState (t0.ctl.mode == .test)) :=
    hunit.trans (State.Clean.tripUnit hclean handed k).1
  have htest : (t0.ctl.mode == .test) = test := congrArg (fun m => decide (m = Mode.test)) hmode0
  rw [hchain, htest]
  clear hchain hclean hunit hcheck hwork hmode0 htest
  clear_value t0 handed test
  have h1 : t1 = t0.withTrip t0.tripSums := rfl
  clear_value t1
  have h2 : t2 = t1.withTrip (t1.tripRequests k) := rfl
  clear_value t2
  have h3 : t3 = t2.withTrip t2.tripBf := rfl
  clear_value t3
  have h4 : t4 = t3.withTrip (t3.tripCauses handed) := rfl
  clear_value t4
  have hdemand : t0.tripDemand handed k = t4 := by
    rw [h4, h3, h2, h1]
    rfl
  rw [hdemand]
  rfl

/-- Settles O32: the row by the iteration of closures, completion, the chain of a closure, and what settling leaves. -/
theorem setDeadline : Obligations.SetDeadline := by
  unfold Obligations.SetDeadline
  refine ⟨fun s o rest hworking hstep hsound ho hdue hrange => ?_, fun s o rest hworking ho => ?_, closure_chain,
    fun s => s.closeCompleteN_iterate _ (.inr le_rfl), fun s o hsound ho => ?_⟩
  · have h := s.sound_iff.1 hsound
    have hlength : s.asm.openSets.length = rest.length + 1 := by rw [ho]; rfl
    have hfirst := h.closed_iterate hworking 1 (by omega)
    have hrest : s.closeHead.asm.openSets.length = rest.length := by
      rw [show s.closeHead.asm.openSets = _ from hfirst.opens, ho]
      rfl
    obtain ⟨m, hm, heq, hall, hlast⟩ := s.closeHead.closeCompleteN_iterate _ (.inr le_rfl)
    refine ⟨m + 1, by omega, by omega, ?_, fun i hi hlt => ?_, hlast, fun i hi hle => ?_⟩
    · rw [exec_setDeadline hworking hstep ho hdue hrange, State.closeComplete, heq]
      rfl
    · obtain ⟨i, rfl⟩ := Nat.exists_eq_add_of_le' hi
      exact hall i (by omega)
    · have hclosed := h.closed_iterate hworking i (by omega)
      refine ⟨hclosed.opens, ?_, hclosed.mode, hclosed.fault, hclosed.index, hclosed.bay⟩
      rw [← hclosed.history, List.take_of_length_le]
      rw [List.length_map]
      exact hclosed.most hi
  · rw [s.headComplete_iff hworking ho]
    exact forall_congr' fun n => imp_congr_right fun _ => s.slotDone_iff n _
  · have h := s.sound_iff.1 hsound
    have hgood := h.opens o ho
    dsimp only
    rw [h.settle ho]
    refine ⟨s.linkAfter_path o hgood, rfl, rfl, rfl, fun n => ?_, fun n => (s.assemblerAfter_lastBay o (hgood n)).1,
      fun n => (s.assemblerAfter_lastBay o (hgood n)).2, rfl, rfl, rfl, rfl, rfl, rfl⟩
    exact Tab.get_ofFn ..

end Sys2Proof.Machine
end
